-- ==== Sys2Proof/Word.lean ====
section
/-! DEFINITION. The word types of the block (00_scope.md R6, R7): every value is an unsigned vector of bits, bit 0 the least significant. -/

namespace Sys2Proof

/-- A byte on the wire (R6: "wire byte 8 bits"). -/
abbrev Byte := BitVec 8

/-- A command or response word (R6, R47: 16 bits). -/
abbrev Word := BitVec 16

end Sys2Proof
end

