-- ==== Sys2Proof/Syntax.lean ====
section
/-! DEFINITION. The commands (30_encoding.md R48 to R54, 40_dispatch.md R67), one constructor per mnemonic of spec/opcode_table.json, and the spec's assembler forms (R65). -/

namespace Sys2Proof

/-- The commands. R67's `Cmd` with the words of SetupMax and TestEnd told apart as the opcode table's rows tell them
(log 7). -/
inductive Instr where
  /-- `SETUP.RESET [p]`, R80. -/
  | setupReset (p : Byte)
  /-- `SETUP.UPPER p`, R81. -/
  | setupUpper (p : Byte)
  /-- `SETUP.FEAT [p]`, R82. -/
  | setupFeat (p : Byte)
  /-- `SETUP.MAX p` with p ≤ 0x10, R83. -/
  | setupMax (p : Byte)
  /-- `SETUP.MAX p` with p > 0x10, R83. -/
  | setupMaxBadparam (p : Byte)
  /-- `SETUP c, p` with c not 0x00, 0x01, 0x04 or 0x05, R84. -/
  | setupRsvd (c : BitVec 6) (p : Byte)
  /-- `RXTEST ch [, ign]`, R85. -/
  | rxtest (ch : BitVec 6) (ign : Byte)
  /-- `TXTEST ch, len, pkt`, R86. -/
  | txtest (ch : BitVec 6) (len : BitVec 6) (pkt : BitVec 2)
  /-- `TESTEND p` with p ≤ 0x0A, R89. -/
  | testend (p : Byte)
  /-- `TESTEND p` with p > 0x0A, R89. -/
  | testendBadparam (p : Byte)
  /-- `TESTEND c, p` with c ≠ 0, R89. -/
  | testendBadctrl (c : BitVec 6) (p : Byte)
  deriving DecidableEq, Repr

/-- The mnemonics of spec/opcode_table.json. -/
inductive Mnemonic where
  | SETUP_RESET | SETUP_UPPER | SETUP_FEAT | SETUP_MAX | SETUP_MAX_BADPARAM | SETUP_RSVD
  | RXTEST | TXTEST | TESTEND | TESTEND_BADPARAM | TESTEND_BADCTRL
  deriving DecidableEq, Repr

/-- The four families of R48. -/
inductive Family where
  | testSetup | receiverTest | transmitterTest | testEnd
  deriving DecidableEq, Repr

/-- The assembler forms of R65. An omitted optional operand is `none`. -/
inductive AsmForm where
  | setupReset (p : Option Nat)
  | setupUpper (p : Nat)
  | setupFeat (p : Option Nat)
  | setupMax (p : Nat)
  | setup (c p : Nat)
  | rxtest (ch : Nat) (ign : Option Nat)
  | txtest (ch len pkt : Nat)
  | testend (p : Option Nat)
  | testendCtl (c p : Nat)
  | word (h : Nat)
  deriving DecidableEq, Repr

end Sys2Proof
end

