-- ==== Sys2Proof/WellFormed.lean ====
section
/-! DEFINITION. Which terms of Instr stand for a word of their own row: the operand ranges of 41_test_setup.md R83, R84 and 44_test_end.md R89. -/

namespace Sys2Proof

/-- The instruction's operands lie in the range its opcode-table rows cover (R52, R53, R83, R84, R89). -/
def Instr.wf : Instr → Bool
  | .setupReset _ => true
  | .setupUpper _ => true
  | .setupFeat _ => true
  | .setupMax p => p ≤ 0x10#8
  | .setupMaxBadparam p => 0x10#8 < p
  | .setupRsvd c _ => c ≠ 0x00#6 && c ≠ 0x01#6 && c ≠ 0x04#6 && c ≠ 0x05#6
  | .rxtest _ _ => true
  | .txtest _ _ _ => true
  | .testend p => p ≤ 0x0A#8
  | .testendBadparam p => 0x0A#8 < p
  | .testendBadctrl c _ => c ≠ 0x00#6

end Sys2Proof
end

