-- ==== Sys2Proof/Decode.lean ====
section
/-! DEFINITION. The command decoder (30_encoding.md R47 to R56, 40_dispatch.md R67), the encoder, the opcode table as data, and the assembler forms of R65. -/

namespace Sys2Proof

/-- R33: `word = {first_byte, second_byte}`, big-endian. -/
def joinBytes (first second : Byte) : Word := first ++ second

/-- R34: the byte written first, bits [15:8]. -/
def highByte (w : Word) : Byte := w.extractLsb' 8 8

/-- R34: the byte written second, bits [7:0]. -/
def lowByte (w : Word) : Byte := w.extractLsb' 0 8

/-- R48: `opcode = w[15:14]`. -/
def opcodeField (w : Word) : BitVec 2 := w.extractLsb' 14 2

/-- R49: `control = w[13:8]`. -/
def controlField (w : Word) : BitVec 6 := w.extractLsb' 8 6

/-- R49: `parameter = w[7:0]`. -/
def parameterField (w : Word) : Byte := w.extractLsb' 0 8

/-- R50, R51: `channel = w[13:8]`. -/
def channelField (w : Word) : BitVec 6 := w.extractLsb' 8 6

/-- R50: the ignored bits `w[7:0]` of a Receiver Test. -/
def ignoredField (w : Word) : Byte := w.extractLsb' 0 8

/-- R51: `length = w[7:2]`. -/
def lengthField (w : Word) : BitVec 6 := w.extractLsb' 2 6

/-- R51: `packet_type = w[1:0]`. -/
def packetTypeField (w : Word) : BitVec 2 := w.extractLsb' 0 2

/-- R67, arm 0b00, with Read Max's parameter range of R83 (log 7). -/
def decodeSetup (c : BitVec 6) (p : Byte) : Instr :=
  if c = 0x00#6 then .setupReset p
  else if c = 0x01#6 then .setupUpper p
  else if c = 0x04#6 then .setupFeat p
  else if c = 0x05#6 then (if p ≤ 0x10#8 then .setupMax p else .setupMaxBadparam p)
  else .setupRsvd c p

/-- R67, arm 0b11, with the checks of R89: control first, then the parameter (log 7). -/
def decodeTestEnd (c : BitVec 6) (p : Byte) : Instr :=
  if c ≠ 0x00#6 then .testendBadctrl c p
  else if p ≤ 0x0A#8 then .testend p
  else .testendBadparam p

/-- R67: `Decode`, a total function of the word alone. -/
def decode (w : Word) : Instr :=
  if opcodeField w = 0b00#2 then decodeSetup (controlField w) (parameterField w)
  else if opcodeField w = 0b01#2 then .rxtest (channelField w) (ignoredField w)
  else if opcodeField w = 0b10#2 then .txtest (channelField w) (lengthField w) (packetTypeField w)
  else decodeTestEnd (controlField w) (parameterField w)

/-- Why bytes are no command. -/
inductive DecodeError where
  /-- Fewer than two bytes: no whole command word (R47). -/
  | incompleteWord
  deriving DecidableEq, Repr

/-- R47, R33: a command is the first two bytes; the rest of the bytes follows it. -/
def decodeBytes : List Byte → Except DecodeError (Instr × List Byte)
  | b0 :: b1 :: rest => .ok (decode (joinBytes b0 b1), rest)
  | _ => .error .incompleteWord

/-- The bytes of a word in wire order, the first at the head (R33). -/
def wordBytes (w : Word) : List Byte := [highByte w, lowByte w]

/-- The instruction the decoder reads from a table word of `nbits` bits (the bits above are 0): the word is laid out in
wire order and given to the decoder. A word wider than a command's 16 bits (R47) is refused. -/
def decodeTableWord (nbits w : Nat) : Option Instr :=
  if nbits ≤ 16 then
    match decodeBytes (wordBytes (BitVec.ofNat 16 (w % 2 ^ nbits))) with
    | .ok (i, _) => some i
    | .error _ => none
  else none

/-- Format CP (R49): opcode, control, parameter. -/
def formatCP (opcode : BitVec 2) (control : BitVec 6) (parameter : Byte) : Word := opcode ++ control ++ parameter

/-- Format RX (R50): opcode 01, channel, ignored bits. -/
def formatRX (channel : BitVec 6) (ignored : Byte) : Word := 0b01#2 ++ channel ++ ignored

/-- Format TX (R51): opcode 10, channel, length, packet type. -/
def formatTX (channel length : BitVec 6) (packetType : BitVec 2) : Word := 0b10#2 ++ channel ++ length ++ packetType

/-- The word of an instruction, from the formats of R49 to R51 and the control codes of R52 and R53. -/
def encode : Instr → Word
  | .setupReset p => formatCP 0b00#2 0x00#6 p
  | .setupUpper p => formatCP 0b00#2 0x01#6 p
  | .setupFeat p => formatCP 0b00#2 0x04#6 p
  | .setupMax p => formatCP 0b00#2 0x05#6 p
  | .setupMaxBadparam p => formatCP 0b00#2 0x05#6 p
  | .setupRsvd c p => formatCP 0b00#2 c p
  | .rxtest ch ign => formatRX ch ign
  | .txtest ch len pkt => formatTX ch len pkt
  | .testend p => formatCP 0b11#2 0x00#6 p
  | .testendBadparam p => formatCP 0b11#2 0x00#6 p
  | .testendBadctrl c p => formatCP 0b11#2 c p

/-- The mnemonic of an instruction's opcode-table rows. -/
def Instr.mnemonic : Instr → Mnemonic
  | .setupReset _ => .SETUP_RESET
  | .setupUpper _ => .SETUP_UPPER
  | .setupFeat _ => .SETUP_FEAT
  | .setupMax _ => .SETUP_MAX
  | .setupMaxBadparam _ => .SETUP_MAX_BADPARAM
  | .setupRsvd _ _ => .SETUP_RSVD
  | .rxtest _ _ => .RXTEST
  | .txtest _ _ _ => .TXTEST
  | .testend _ => .TESTEND
  | .testendBadparam _ => .TESTEND_BADPARAM
  | .testendBadctrl _ _ => .TESTEND_BADCTRL

/-- The family of an instruction (R48). -/
def Instr.family : Instr → Family
  | .setupReset _ => .testSetup
  | .setupUpper _ => .testSetup
  | .setupFeat _ => .testSetup
  | .setupMax _ => .testSetup
  | .setupMaxBadparam _ => .testSetup
  | .setupRsvd _ _ => .testSetup
  | .rxtest _ _ => .receiverTest
  | .txtest _ _ _ => .transmitterTest
  | .testend _ => .testEnd
  | .testendBadparam _ => .testEnd
  | .testendBadctrl _ _ => .testEnd

/-- The opcode of a family (R48). -/
def Family.opcode : Family → BitVec 2
  | .testSetup => 0b00#2
  | .receiverTest => 0b01#2
  | .transmitterTest => 0b10#2
  | .testEnd => 0b11#2

/-- A row of spec/opcode_table.json: a word belongs to it when `word & mask == match`. -/
structure Row where
  pattern : Word
  mask : Word
  mnemonic : Mnemonic
  deriving DecidableEq, Repr

/-- 30_encoding.md: `word & mask == match`. -/
def Row.covers (r : Row) (w : Word) : Bool := w &&& r.mask == r.pattern

/-- The opcode table's rows of 41_test_setup.md R80 to R84. -/
def setupRows : List Row :=
  [
    ⟨0x0000#16, 0xFF00#16, .SETUP_RESET⟩,
    ⟨0x0100#16, 0xFF00#16, .SETUP_UPPER⟩,
    ⟨0x0200#16, 0xFE00#16, .SETUP_RSVD⟩,
    ⟨0x0400#16, 0xFF00#16, .SETUP_FEAT⟩,
    ⟨0x0500#16, 0xFFF0#16, .SETUP_MAX⟩,
    ⟨0x0510#16, 0xFFFF#16, .SETUP_MAX⟩,
    ⟨0x0511#16, 0xFFFF#16, .SETUP_MAX_BADPARAM⟩,
    ⟨0x0512#16, 0xFFFE#16, .SETUP_MAX_BADPARAM⟩,
    ⟨0x0514#16, 0xFFFC#16, .SETUP_MAX_BADPARAM⟩ ] ++
  [
    ⟨0x0518#16, 0xFFF8#16, .SETUP_MAX_BADPARAM⟩,
    ⟨0x0520#16, 0xFFE0#16, .SETUP_MAX_BADPARAM⟩,
    ⟨0x0540#16, 0xFFC0#16, .SETUP_MAX_BADPARAM⟩,
    ⟨0x0580#16, 0xFF80#16, .SETUP_MAX_BADPARAM⟩,
    ⟨0x0600#16, 0xFE00#16, .SETUP_RSVD⟩,
    ⟨0x0800#16, 0xF800#16, .SETUP_RSVD⟩,
    ⟨0x1000#16, 0xF000#16, .SETUP_RSVD⟩,
    ⟨0x2000#16, 0xE000#16, .SETUP_RSVD⟩ ]

/-- The opcode table's rows of 42_receiver_test.md R85, 43_transmitter_test.md R86. -/
def testRows : List Row :=
  [
    ⟨0x4000#16, 0xC000#16, .RXTEST⟩,
    ⟨0x8000#16, 0xC000#16, .TXTEST⟩ ]

/-- The opcode table's rows of 44_test_end.md R89. -/
def testEndRows : List Row :=
  [
    ⟨0xC000#16, 0xFFF8#16, .TESTEND⟩,
    ⟨0xC008#16, 0xFFFE#16, .TESTEND⟩,
    ⟨0xC00A#16, 0xFFFF#16, .TESTEND⟩,
    ⟨0xC00B#16, 0xFFFF#16, .TESTEND_BADPARAM⟩,
    ⟨0xC00C#16, 0xFFFC#16, .TESTEND_BADPARAM⟩,
    ⟨0xC010#16, 0xFFF0#16, .TESTEND_BADPARAM⟩,
    ⟨0xC020#16, 0xFFE0#16, .TESTEND_BADPARAM⟩,
    ⟨0xC040#16, 0xFFC0#16, .TESTEND_BADPARAM⟩,
    ⟨0xC080#16, 0xFF80#16, .TESTEND_BADPARAM⟩ ] ++
  [
    ⟨0xC100#16, 0xFF00#16, .TESTEND_BADCTRL⟩,
    ⟨0xC200#16, 0xFE00#16, .TESTEND_BADCTRL⟩,
    ⟨0xC400#16, 0xFC00#16, .TESTEND_BADCTRL⟩,
    ⟨0xC800#16, 0xF800#16, .TESTEND_BADCTRL⟩,
    ⟨0xD000#16, 0xF000#16, .TESTEND_BADCTRL⟩,
    ⟨0xE000#16, 0xE000#16, .TESTEND_BADCTRL⟩ ]

/-- spec/opcode_table.json, row by row. -/
def opcodeTable : List Row := setupRows ++ testRows ++ testEndRows

/-- R65: the word a form spells; an operand outside its range spells no word. -/
def assemble : AsmForm → Option Word
  | .setupReset p => if p.getD 0 ≤ 0xFF then some (BitVec.ofNat 16 (0x0000 ||| p.getD 0)) else none
  | .setupUpper p => if p ≤ 0xFF then some (BitVec.ofNat 16 (0x0100 ||| p)) else none
  | .setupFeat p => if p.getD 0 ≤ 0xFF then some (BitVec.ofNat 16 (0x0400 ||| p.getD 0)) else none
  | .setupMax p => if p ≤ 0xFF then some (BitVec.ofNat 16 (0x0500 ||| p)) else none
  | .setup c p => if c ≤ 0x3F ∧ p ≤ 0xFF then some (BitVec.ofNat 16 ((c <<< 8) ||| p)) else none
  | .rxtest ch ign =>
    if ch ≤ 63 ∧ ign.getD 0 ≤ 0xFF then some (BitVec.ofNat 16 (0x4000 ||| (ch <<< 8) ||| ign.getD 0)) else none
  | .txtest ch len pkt =>
    if ch ≤ 63 ∧ len ≤ 63 ∧ pkt ≤ 3 then some (BitVec.ofNat 16 (0x8000 ||| (ch <<< 8) ||| (len <<< 2) ||| pkt)) else none
  | .testend p => if p.getD 0 ≤ 0xFF then some (BitVec.ofNat 16 (0xC000 ||| p.getD 0)) else none
  | .testendCtl c p => if c ≤ 0x3F ∧ p ≤ 0xFF then some (BitVec.ofNat 16 (0xC000 ||| (c <<< 8) ||| p)) else none
  | .word h => if h ≤ 0xFFFF then some (BitVec.ofNat 16 h) else none

end Sys2Proof
end

