-- ==== Sys2Proof/Config.lean ====
section
/-! DEFINITION. What an implementation fixes (00_scope.md R6), what the environment presents to the block in a cycle (R10, R20 to R24), and the free values. -/

namespace Sys2Proof

/-- R6, source §4.2: the second-byte timeout threshold, in time units. -/
def Config.timeoutUnits : Nat := 5

/-- The parameters of R6 that change what the block does. A model takes them as arguments: they stand in State, no step
writes them (log 1), and a statement about every state is a statement about every choice of them. -/
structure Params where
  /-- `TIME_W`, the width of `now` and of `ts`; any value of at least 4 is legal (92 D2). -/
  timeW : Nat
  /-- `AUX_PRESENT`, whether the auxiliary command port is wired (92 D15). -/
  auxPresent : Bool
  deriving DecidableEq, Repr

/-- R6: the defaults, `TIME_W = 32` and `AUX_PRESENT = true`. -/
def Params.default : Params := { timeW := 32, auxPresent := true }

/-- The executor's answer signals (10_state.md R20; widths 92 D9). -/
structure Answer where
  /-- `exec_ok`, the operation's Result. -/
  ok : Bool
  /-- `exec_value`, read_max_value's value. -/
  value : BitVec 14
  /-- `exec_count`, end_test's packet count. -/
  count : BitVec 15
  /-- `exec_features`, the nine booleans of read_supported_features in the order of R82. -/
  features : BitVec 9
  deriving DecidableEq, Repr, Inhabited

/-- What the environment does for one cycle: between the previous cycle and this one (`arrivals`, `advance`) and on the
input pins during it. -/
structure CycleInput where
  /-- The bytes the sender appends to the RX FIFO before the cycle, in order (R10, R40). -/
  arrivals : List Byte
  /-- The time units the time source advances before the cycle; it never goes back (R23, 92 D24; log 5). -/
  advance : Nat
  rst : Bool
  execAck : Bool
  answer : Answer
  auxValid : Bool
  auxWord : Word
  deriving DecidableEq, Repr, Inhabited

/-- What packet pattern 3 can be: "0xFF-or-vendor-specific" (R6, `PATTERN3`). -/
inductive Pattern3 where
  | allOnes
  | vendorSpecific
  deriving DecidableEq, Repr, Inhabited

/-- The environment's free choice for a cycle that no script entry decides (93 I5, I6; log 2): the `n`-th draw. -/
opaque Config.freeInput : Nat → CycleInput

/-- `PATTERN3` (R6, 93 I4): the executor decides it, not the block (log 13). -/
opaque Config.pattern3 : Pattern3

/-- `TIME_UNIT` (R6, 93 I1): the physical length of one time unit. The block's behaviour does not use it (log 13). -/
opaque Config.timeUnit : Nat

end Sys2Proof
end

