-- ==== Sys2Proof/Machine/State.lean ====
section
/-! DEFINITION. The state of the machine (10_state.md R12 to R26): the block's registers, the byte channels and port signals it reads and drives, the parameters, and the environment's coming inputs. -/

namespace Sys2Proof.Machine

/-- R15: the framer's two states. -/
inductive FramerState where
  /-- IDLE: no partial command. -/
  | idle
  /-- AWAIT: the high byte of a command is held. -/
  | await
  deriving DecidableEq, Repr

/-- R12, R18: where a command came from and its response goes. -/
inductive Source where
  /-- The wire. -/
  | framer
  /-- The auxiliary port. -/
  | aux
  deriving DecidableEq, Repr

/-- R64: the executor's six operations. Codes 6 and 7 are never issued and have no name (log 9). -/
inductive ExecOp where
  | reset | readFeatures | readMax | startRx | startTx | endTest
  deriving DecidableEq, Repr

/-- R59: the five max-value classes. -/
inductive ValueClass where
  | txOctets | txTime | rxOctets | rxTime | cteLength
  deriving DecidableEq, Repr

/-- R110: the named diagnostic codes. Codes 6 and 7 are unused and have no name (log 9). -/
inductive DiagCode where
  | none | desync | badControl | badParam | execFail | badOpcode
  deriving DecidableEq, Repr

/-- R12, R18: an executor request as issued. -/
structure Request where
  op : ExecOp
  channel : BitVec 6
  length : Byte
  pattern : BitVec 2
  cls : ValueClass
  deriving DecidableEq, Repr

/-- R21, R22, R24: the output signals of one cycle. The executor outputs are driven from registers (R20, `State.execPort`). -/
structure Outputs where
  rxPop : BitVec 2
  txValid : Bool
  txHi : Byte
  txLo : Byte
  auxTake : Bool
  auxRespValid : Bool
  auxResp : Word
  diagValid : Bool
  diagCode : DiagCode
  deriving DecidableEq, Repr

/-- R20, R22, R23, R25: the input signals of one cycle, but for the RX FIFO's, which are computed from `State.rx`. -/
structure Pins where
  rst : Bool
  now : Nat
  execAck : Bool
  answer : Answer
  auxValid : Bool
  auxWord : Word
  deriving DecidableEq, Repr

/-- The machine between two cycles. -/
structure State where
  /-- R6: the parameters; no step writes them (log 1). -/
  par : Params
  /-- R13: the persisted upper length bits. -/
  upperLen : Byte
  /-- R15: the framer's state. -/
  fr : FramerState
  /-- R16: the held high byte. -/
  hi : Byte
  /-- R17: the time the high byte was taken, a `TIME_W`-bit value (log 6). -/
  ts : Nat
  /-- R18: a request is outstanding. -/
  busy : Bool
  /-- R18: where the outstanding command's response goes. -/
  srcReg : Source
  /-- R18: the request as issued. -/
  req : Request
  /-- R21, R40: the RX FIFO, oldest byte first. -/
  rx : List Byte
  /-- R21, R101: the bytes the TX sink has taken, oldest first. -/
  tx : List Byte
  /-- R21 to R24: the output signals of the cycle just run (log 8). -/
  out : Outputs
  /-- The input signals of the coming cycle (log 2). -/
  pins : Pins
  /-- What the environment does in the cycles after the coming one (log 2). -/
  script : List CycleInput
  /-- The number of free environment draws taken so far (log 2). -/
  draws : Nat
  deriving DecidableEq, Repr

/-- Why the machine stops with a fault: never. R111 gives the block no fault outcome for any input, so no constructor
stands here and nothing raises one; that is safe, since no behaviour of the block is cut off. -/
inductive Fault where
  deriving DecidableEq, Repr

/-- Why an instruction has no meaning. -/
inductive Refusal where
  /-- Raised by an arm of exec whose instruction has no meaning yet; safe. No arm raises it. -/
  | notModelled (mnemonic : String)
  deriving DecidableEq, Repr

/-- R69: what `Plan` asks for. -/
inductive Action where
  /-- The response is known without the executor. -/
  | immediate (resp : Word) (code : DiagCode)
  /-- An executor request. -/
  | call (r : Request)
  deriving DecidableEq, Repr

/-- R69: `Plan`'s result, `(ul_next, action)`. -/
structure Plan where
  upperNext : Byte
  action : Action
  deriving DecidableEq, Repr

/-- What a cycle does before any command is served (R25, R91): it is over, or it hands a command word to the dispatcher. -/
inductive Fetched where
  | done (t : State)
  | serve (w : Word) (t : State)
  deriving DecidableEq, Repr

/-- R20: the executor port's output signals. -/
structure ExecPort where
  req : Bool
  op : BitVec 3
  channel : BitVec 6
  length : Byte
  pattern : BitVec 2
  cls : BitVec 3
  deriving DecidableEq, Repr

/-- R24: the diagnostic port's output signals. -/
structure DiagPort where
  valid : Bool
  code : BitVec 3
  deriving DecidableEq, Repr

/-- R30: the outputs of a cycle that drives none of them. -/
def Outputs.idle : Outputs :=
  { rxPop := 0, txValid := false, txHi := 0, txLo := 0, auxTake := false, auxRespValid := false, auxResp := 0,
    diagValid := false, diagCode := .none }

/-- R26: `req.*` all 0. -/
def Request.zero : Request := { op := .reset, channel := 0, length := 0, pattern := 0, cls := .txOctets }

/-- No input is asserted and the time is 0 (log 12). -/
def Pins.idle : Pins :=
  { rst := false, now := 0, execAck := false, answer := { ok := false, value := 0, count := 0, features := 0 },
    auxValid := false, auxWord := 0 }

/-- The machine right after hardware reset: the registers as R26 and R124 say, the default parameters of R6, an idle
environment and empty channels (log 12). -/
def State.reset : State :=
  { par := Params.default, upperLen := 0x00, fr := .idle, hi := 0x00, ts := 0, busy := false, srcReg := .framer,
    req := Request.zero, rx := [], tx := [], out := Outputs.idle, pins := Pins.idle, script := [], draws := 0 }

end Sys2Proof.Machine
end

