-- ==== Sys2Proof/Machine/Operands.lean ====
section
/-! DEFINITION. What the commands compute from their operands (30_encoding.md R57 to R59, R63) and the codes on the ports (R64, R87, R110). -/

namespace Sys2Proof.Machine

/-- R57: the value Set Upper Bits stores, `trunc_8((zext_16(parameter) << 4) & 0x00C0)`. -/
def upperValue (p : Byte) : Byte := (((p.setWidth 16) <<< 4) &&& 0x00C0#16).setWidth 8

/-- R58: the effective transmit length, `trunc_8(zext_8(length & 0x3F) | upper_len)`. -/
def effLength (len : BitVec 6) (ul : Byte) : Byte := (len &&& 0x3F#6).setWidth 8 ||| ul

/-- R59: the class that parameter bits [3:2] name. -/
def classOfBits (b : BitVec 2) : ValueClass :=
  if b = 0#2 then .txOctets else if b = 1#2 then .txTime else if b = 2#2 then .rxOctets else .rxTime

/-- R59: `ClassOf`; `none` is the rule's NONE. -/
def classOf (p : Byte) : Option ValueClass :=
  if p ≤ 0x0F#8 then some (classOfBits (p.extractLsb' 2 2))
  else if p = 0x10#8 then some .cteLength
  else none

/-- R63: `trunc_16(zext_16(f) << 1)`. -/
def featureMask (f : BitVec 9) : Word := f.setWidth 16 <<< 1

/-- R64: the codes of `req.op`. -/
def ExecOp.code : ExecOp → BitVec 3
  | .reset => 0
  | .readFeatures => 1
  | .readMax => 2
  | .startRx => 3
  | .startTx => 4
  | .endTest => 5

/-- R59, R64: the codes of `req.class`. -/
def ValueClass.code : ValueClass → BitVec 3
  | .txOctets => 0
  | .txTime => 1
  | .rxOctets => 2
  | .rxTime => 3
  | .cteLength => 4

/-- R110: the codes on `diag_code`. -/
def DiagCode.code : DiagCode → BitVec 3
  | .none => 0
  | .desync => 1
  | .badControl => 2
  | .badParam => 3
  | .execFail => 4
  | .badOpcode => 5

/-- R87: the packet patterns. -/
inductive Pattern where
  | prbs9
  | fixed0F
  | fixed55
  /-- 0xFF or vendor-specific, as the executor chooses (`PATTERN3`). -/
  | third (p : Pattern3)
  deriving DecidableEq, Repr

/-- R64, R87: the pattern that a `req.pattern` code names. -/
def patternOf (code : BitVec 2) : Pattern :=
  if code = 0#2 then .prbs9
  else if code = 1#2 then .fixed0F
  else if code = 2#2 then .fixed55
  else .third Config.pattern3

end Sys2Proof.Machine
end

