-- ==== Sys2Proof/Machine/Flags.lean ====
section
/-! DEFINITION. The response encoder (30_encoding.md R60 to R62, 40_dispatch.md R72 to R75). The block has no status flags (R27); a response word's event and status bits are the nearest to them. -/

namespace Sys2Proof.Machine

/-- R60, R73: the success status word. -/
def statusSuccess (payload : Word) : Word := 0x0001#16 ||| payload

/-- R60, R74: the error status word. -/
def statusError : Word := 0x0000#16

/-- R61, R75: the packet-reporting word. -/
def packetReport (count : BitVec 15) : Word := 0x8000#16 ||| count.setWidth 16

/-- R72: an operation whose success carries the response `r`; its failure answers error with EXEC_FAIL. -/
def okOrFail (ok : Bool) (r : Word) : Word × DiagCode :=
  if ok then (r, .none) else (statusError, .execFail)

/-- R72: `Encode(op, ans)`. READ_FEATURES ignores the Result (92 D11); a Read Max value is shifted left by 1 (R83). -/
def encodeAnswer (op : ExecOp) (ans : Answer) : Word × DiagCode :=
  match op with
  | .reset => okOrFail ans.ok (statusSuccess 0)
  | .readFeatures => (statusSuccess (featureMask ans.features), .none)
  | .readMax => okOrFail ans.ok (statusSuccess (ans.value.setWidth 16 <<< 1))
  | .startRx => okOrFail ans.ok (statusSuccess 0)
  | .startTx => okOrFail ans.ok (statusSuccess 0)
  | .endTest => okOrFail ans.ok (packetReport ans.count)

end Sys2Proof.Machine
end

