-- ==== Sys2Proof/Machine/Ops.lean ====
section
/-! DEFINITION. The shared operations on the state: the channel primitives of 00_scope.md R8, the dispatcher's and the framer's register writes (40_dispatch.md R68 to R71, 45_framer.md R94, R97, R99), hardware reset (70_reset_and_hazards.md R124), and the environment's moves between two cycles. The block takes no exception (60_exceptions.md R115). -/

namespace Sys2Proof.Machine

/-- R8: `RxCount()`, saturated to 2. -/
def State.rxCount (s : State) : Nat := min s.rx.length 2

/-- R8: `RxPeek(i)`, byte `i` of the FIFO, 0 the oldest. It is read only for `i < RxCount()`. -/
def State.rxPeek (s : State) (i : Nat) : Byte := s.rx.getD i 0

/-- R8: `RxPop(n)`, which also drives `rx_pop` (R21). -/
def State.popRx (n : Nat) (s : State) : State :=
  { s with rx := s.rx.drop n, out := { s.out with rxPop := BitVec.ofNat 2 n } }

/-- R8, R21: `TxWrite(b1, b2)`. -/
def State.txWrite (b1 b2 : Byte) (s : State) : State :=
  { s with tx := s.tx ++ [b1, b2], out := { s.out with txValid := true, txHi := b1, txLo := b2 } }

/-- R22: the response on the auxiliary port. -/
def State.auxRespond (resp : Word) (s : State) : State :=
  { s with out := { s.out with auxRespValid := true, auxResp := resp } }

/-- R68: `Respond(src, resp)`. -/
def State.respond (src : Source) (resp : Word) (s : State) : State :=
  match src with
  | .framer => s.txWrite (highByte resp) (lowByte resp)
  | .aux => s.auxRespond resp

/-- R69, R71: `if code != NONE: Diag(code)`. -/
def State.diag (code : DiagCode) (s : State) : State :=
  if code = .none then s else { s with out := { s.out with diagValid := true, diagCode := code } }

/-- R25: an auxiliary word is offered on a wired port; when AUX_PRESENT is false, `aux_valid` is tied to 0 (R22). -/
def State.auxOffered (s : State) : Bool := s.par.auxPresent && s.pins.auxValid

/-- R25, R76: the `src` argument of `Serve`. In a cycle that serves a command, an offered auxiliary word is the one
served; otherwise the word is the framer's (log 3). -/
def State.source (s : State) : Source := if s.auxOffered then .aux else .framer

/-- R13: the write of `upper_len` in a serve cycle. -/
def State.setUpper (ul : Byte) (s : State) : State := { s with upperLen := ul }

/-- R70: `ExecIssue`: `busy <- 1; src_reg <- src; req <- r`. -/
def State.issue (src : Source) (r : Request) (s : State) : State := { s with busy := true, srcReg := src, req := r }

/-- R69: the effects of `Serve` once the command's plan is known. -/
def State.perform (p : Plan) (s : State) : State :=
  match p.action with
  | .immediate resp code => ((s.setUpper p.upperNext).respond s.source resp).diag code
  | .call r => (s.setUpper p.upperNext).issue s.source r

/-- R71: `busy <- 0`. -/
def State.release (s : State) : State := { s with busy := false }

/-- R71: `Complete()`. -/
def State.complete (s : State) : State :=
  let e := encodeAnswer s.req.op s.pins.answer
  ((s.respond s.srcReg e.1).diag e.2).release

/-- R94: `hi <- b; ts <- now; fr <- AWAIT`. -/
def State.holdHigh (b : Byte) (s : State) : State := { s with hi := b, ts := s.pins.now % 2 ^ s.par.timeW, fr := .await }

/-- R96, R97: `fr <- IDLE`. -/
def State.toIdle (s : State) : State := { s with fr := .idle }

/-- R99: `Elapsed() = (now - ts) mod 2^TIME_W`, TIME_W-bit unsigned. -/
def State.elapsed (s : State) : Nat := (BitVec.ofNat s.par.timeW s.pins.now - BitVec.ofNat s.par.timeW s.ts).toNat

/-- R76: `aux_take = 1`. -/
def State.takeAux (s : State) : State := { s with out := { s.out with auxTake := true } }

/-- R30: at the start of a cycle no output is driven. -/
def State.clearOutputs (s : State) : State := { s with out := Outputs.idle }

/-- R124: `ResetState()`: every register of R26; the channels outside the block are left as they are. -/
def State.hardReset (s : State) : State :=
  { s with
    upperLen := 0x00, fr := .idle, hi := 0x00, ts := 0, busy := false, srcReg := .framer, req := Request.zero,
    out := Outputs.idle }

/-- R20: the executor port, driven from the registers; an argument is shown for the operations it belongs to and is 0
otherwise (log 11). -/
def State.execPort (s : State) : ExecPort :=
  { req := s.busy
    op := s.req.op.code
    channel := match s.req.op with
      | .startRx | .startTx => s.req.channel
      | .reset | .readFeatures | .readMax | .endTest => 0
    length := match s.req.op with
      | .startTx => s.req.length
      | .reset | .readFeatures | .readMax | .startRx | .endTest => 0
    pattern := match s.req.op with
      | .startTx => s.req.pattern
      | .reset | .readFeatures | .readMax | .startRx | .endTest => 0
    cls := match s.req.op with
      | .readMax => s.req.cls.code
      | .reset | .readFeatures | .startRx | .startTx | .endTest => 0 }

/-- R24: the diagnostic port of the cycle just run (log 8), with the code of R110. -/
def State.diagPort (s : State) : DiagPort := { valid := s.out.diagValid, code := s.out.diagCode.code }

/-- The environment's moves between two cycles (R10, R25, R40): the sender's bytes join the FIFO, the time source
advances, and the other pins take their values for the next cycle. -/
def State.present (inp : CycleInput) (s : State) : State :=
  { s with
    rx := s.rx ++ inp.arrivals
    pins :=
      { rst := inp.rst, now := (s.pins.now + inp.advance) % 2 ^ s.par.timeW, execAck := inp.execAck,
        answer := inp.answer, auxValid := inp.auxValid, auxWord := inp.auxWord } }

/-- The environment moves, and its move is used up (log 2). -/
def State.between (s : State) : State :=
  match s.script with
  | inp :: rest => { s.present inp with script := rest }
  | [] => { s.present (Config.freeInput s.draws) with draws := s.draws + 1 }

/-- A cycle's outcome, after the environment's moves that follow it. -/
def afterCycle : Host.Outcome State Fault Refusal → Host.Outcome State Fault Refusal
  | .next t => .next t.between
  | .fault r => .fault r
  | .refused r => .refused r

end Sys2Proof.Machine
end

