-- ==== Sys2Proof/Machine/Receiver.lean ====
section
/-! DEFINITION. The Receiver Test command (42_receiver_test.md R85). -/

namespace Sys2Proof.Machine

/-- R85: the executor is asked to receive on the channel; the ignored bits have no effect. -/
def planRxtest (ch : BitVec 6) (_ign : Byte) (ul : Byte) : Plan :=
  { upperNext := ul, action := .call { op := .startRx, channel := ch, length := 0, pattern := 0, cls := .txOctets } }

/-- RXTEST, R85. -/
def execRxtest (ch : BitVec 6) (ign : Byte) (s : State) : Host.Outcome State Fault Refusal :=
  .next (s.perform (planRxtest ch ign s.upperLen))

end Sys2Proof.Machine
end

