-- ==== Sys2Proof/Machine/Setup.lean ====
section
/-! DEFINITION. The Test Setup commands (41_test_setup.md R80 to R84). In a `Call`, every request field the operation does not use is 0. -/

namespace Sys2Proof.Machine

/-- R80: `upper_len` is cleared, and the executor is asked to reset, whatever the parameter. -/
def planSetupReset (_p : Byte) (_ul : Byte) : Plan :=
  { upperNext := 0x00, action := .call { op := .reset, channel := 0, length := 0, pattern := 0, cls := .txOctets } }

/-- R81: `upper_len` takes the new upper bits, and success is answered at once. -/
def planSetupUpper (p : Byte) (_ul : Byte) : Plan :=
  { upperNext := upperValue p, action := .immediate (statusSuccess 0) .none }

/-- R82: the executor is asked for its features, whatever the parameter. -/
def planSetupFeat (_p : Byte) (ul : Byte) : Plan :=
  { upperNext := ul, action := .call { op := .readFeatures, channel := 0, length := 0, pattern := 0, cls := .txOctets } }

/-- R83: a parameter with a class asks the executor for that class's maximum; one without is a BAD_PARAM error. -/
def planReadMax (p : Byte) (ul : Byte) : Plan :=
  match classOf p with
  | some k =>
    { upperNext := ul, action := .call { op := .readMax, channel := 0, length := 0, pattern := 0, cls := k } }
  | none => { upperNext := ul, action := .immediate statusError .badParam }

/-- R84: a reserved control is a BAD_CONTROL error. -/
def planSetupRsvd (_c : BitVec 6) (_p : Byte) (ul : Byte) : Plan :=
  { upperNext := ul, action := .immediate statusError .badControl }

/-- SETUP.RESET, R80. -/
def execSetupReset (p : Byte) (s : State) : Host.Outcome State Fault Refusal :=
  .next (s.perform (planSetupReset p s.upperLen))

/-- SETUP.UPPER, R81. -/
def execSetupUpper (p : Byte) (s : State) : Host.Outcome State Fault Refusal :=
  .next (s.perform (planSetupUpper p s.upperLen))

/-- SETUP.FEAT, R82. -/
def execSetupFeat (p : Byte) (s : State) : Host.Outcome State Fault Refusal :=
  .next (s.perform (planSetupFeat p s.upperLen))

/-- SETUP.MAX, R83. -/
def execSetupMax (p : Byte) (s : State) : Host.Outcome State Fault Refusal :=
  .next (s.perform (planReadMax p s.upperLen))

/-- SETUP.MAX.BADPARAM, R83. -/
def execSetupMaxBadparam (p : Byte) (s : State) : Host.Outcome State Fault Refusal :=
  .next (s.perform (planReadMax p s.upperLen))

/-- SETUP.RSVD, R84. -/
def execSetupRsvd (c : BitVec 6) (p : Byte) (s : State) : Host.Outcome State Fault Refusal :=
  .next (s.perform (planSetupRsvd c p s.upperLen))

end Sys2Proof.Machine
end

