-- ==== Sys2Proof/Machine/TestEnd.lean ====
section
/-! DEFINITION. The Test End command and its errors (44_test_end.md R89, R90). -/

namespace Sys2Proof.Machine

/-- R89: control is checked first, then the parameter; a valid command asks the executor to end the test. -/
def planTestEnd (c : BitVec 6) (p : Byte) (ul : Byte) : Plan :=
  if c ≠ 0x00#6 then { upperNext := ul, action := .immediate statusError .badControl }
  else if 0x0A#8 < p then { upperNext := ul, action := .immediate statusError .badParam }
  else { upperNext := ul, action := .call { op := .endTest, channel := 0, length := 0, pattern := 0, cls := .txOctets } }

/-- TESTEND, R89. -/
def execTestend (p : Byte) (s : State) : Host.Outcome State Fault Refusal :=
  .next (s.perform (planTestEnd 0x00#6 p s.upperLen))

/-- TESTEND.BADPARAM, R89. -/
def execTestendBadparam (p : Byte) (s : State) : Host.Outcome State Fault Refusal :=
  .next (s.perform (planTestEnd 0x00#6 p s.upperLen))

/-- TESTEND.BADCTRL, R89. -/
def execTestendBadctrl (c : BitVec 6) (p : Byte) (s : State) : Host.Outcome State Fault Refusal :=
  .next (s.perform (planTestEnd c p s.upperLen))

end Sys2Proof.Machine
end

