-- ==== Sys2Proof/Machine/Transmitter.lean ====
section
/-! DEFINITION. The Transmitter Test command (43_transmitter_test.md R86 to R88). -/

namespace Sys2Proof.Machine

/-- R86, R87: the executor is asked to transmit with the effective length and the pattern code `pkt`; `upper_len` is
read and kept (R88). -/
def planTxtest (ch len : BitVec 6) (pkt : BitVec 2) (ul : Byte) : Plan :=
  { upperNext := ul
    action := .call { op := .startTx, channel := ch, length := effLength len ul, pattern := pkt, cls := .txOctets } }

/-- TXTEST, R86. -/
def execTxtest (ch len : BitVec 6) (pkt : BitVec 2) (s : State) : Host.Outcome State Fault Refusal :=
  .next (s.perform (planTxtest ch len pkt s.upperLen))

end Sys2Proof.Machine
end

