-- ==== Sys2Proof/Machine/Dispatch.lean ====
section
/-! DEFINITION. The dispatcher's arms (40_dispatch.md R69): one direct call of a meaning for each constructor of Instr. -/

namespace Sys2Proof.Machine

def exec (i : Instr) (s : State) : Host.Outcome State Fault Refusal :=
  match i with
  | .setupReset p => Sys2Proof.Machine.execSetupReset p s
  | .setupUpper p => Sys2Proof.Machine.execSetupUpper p s
  | .setupFeat p => Sys2Proof.Machine.execSetupFeat p s
  | .setupMax p => Sys2Proof.Machine.execSetupMax p s
  | .setupMaxBadparam p => Sys2Proof.Machine.execSetupMaxBadparam p s
  | .setupRsvd c p => Sys2Proof.Machine.execSetupRsvd c p s
  | .rxtest ch ign => Sys2Proof.Machine.execRxtest ch ign s
  | .txtest ch len pkt => Sys2Proof.Machine.execTxtest ch len pkt s
  | .testend p => Sys2Proof.Machine.execTestend p s
  | .testendBadparam p => Sys2Proof.Machine.execTestendBadparam p s
  | .testendBadctrl c p => Sys2Proof.Machine.execTestendBadctrl c p s

end Sys2Proof.Machine
end

