-- ==== Sys2Proof/Machine/Framer.lean ====
section
/-! DEFINITION. The framer's poll (45_framer.md R91 to R100) and the cycle up to the point where a command word is served (10_state.md R25, 60_exceptions.md R113). -/

namespace Sys2Proof.Machine

/-- R91: `FramerPoll()`, the six cases of R93 to R98 in the rule's order. -/
def State.poll (s : State) : Fetched :=
  match s.fr with
  | .idle =>
    if s.rxCount = 2 then .serve (joinBytes (s.rxPeek 0) (s.rxPeek 1)) (s.popRx 2)
    else if s.rxCount = 1 then .done ((s.holdHigh (s.rxPeek 0)).popRx 1)
    else .done s
  | .await =>
    if 1 ≤ s.rxCount then .serve (joinBytes s.hi (s.rxPeek 0)) (s.popRx 1).toIdle
    else if Config.timeoutUnits < s.elapsed then .done (s.toIdle.diag .desync)
    else .done s

/-- R25, R113: what the cycle does, in the order reset, complete or wait, auxiliary word, framer poll. -/
def State.fetch (s : State) : Fetched :=
  if s.pins.rst then .done s.hardReset
  else if s.busy then (if s.pins.execAck then .done s.clearOutputs.complete else .done s.clearOutputs)
  else if s.auxOffered then .serve s.pins.auxWord s.clearOutputs.takeAux
  else s.clearOutputs.poll

end Sys2Proof.Machine
end

