-- ==== Sys2Proof/Machine/Step.lean ====
section
/-! DEFINITION. One step is one clock cycle (10_state.md R25) and the environment's moves after it (00_scope.md R10). -/

namespace Sys2Proof.Machine

/-- R25: the cycle, its command served where it forms or takes one (R69), and then the environment's moves. -/
def step (s : State) : Host.Outcome State Fault Refusal :=
  match s.fetch with
  | .done t => .next t.between
  | .serve w t => afterCycle (exec (decode w) t)

/-- `s` with a command word at the RX FIFO's head and the block about to poll it on the fast path (R93): no reset, no
outstanding request, no auxiliary word, the framer idle (log 14). -/
def State.withFetchWord (s : State) (nbits w : Nat) : State :=
  { s with
    fr := .idle
    busy := false
    rx := wordBytes (BitVec.ofNat 16 (w % 2 ^ nbits)) ++ s.rx
    pins := { s.pins with rst := false, auxValid := false } }

end Sys2Proof.Machine
end

