-- ==== Sys2Proof/Safety.lean ====
section
/-! DEFINITION. What the statements speak of: the invariant of the machine, the response kinds of 30_encoding.md R62, what a cycle serves and owes, and the answer the spec gives each word. -/

namespace Sys2Proof.Machine

/-- R62: a success status word. -/
abbrev isSuccess (r : Word) : Prop := r.getLsbD 15 = false ∧ r.getLsbD 0 = true

/-- R62: the error status word. -/
abbrev isError (r : Word) : Prop := r = 0x0000#16

/-- R62: a packet-report word. -/
abbrev isReport (r : Word) : Prop := r.getLsbD 15 = true

/-- R62: a word of one of the three response kinds. -/
abbrev isResponse (r : Word) : Prop := isSuccess r ∨ isError r ∨ isReport r

/-- R6, R12: the parameters are legal and the time registers are `TIME_W`-bit values. -/
abbrev State.TimeOk (s : State) : Prop :=
  4 ≤ s.par.timeW ∧ s.ts < 2 ^ s.par.timeW ∧ s.pins.now < 2 ^ s.par.timeW

/-- R14: `upper_len[5:0]` is 0. -/
abbrev State.UpperOk (s : State) : Prop := s.upperLen &&& 0x3F#8 = 0x00#8

/-- 41_test_setup.md: "every request field the operation does not use is 0". -/
abbrev Request.Ok (r : Request) : Prop :=
  ((r.op ≠ .startRx ∧ r.op ≠ .startTx) → r.channel = 0) ∧
  (r.op ≠ .startTx → r.length = 0 ∧ r.pattern = 0) ∧
  (r.op ≠ .readMax → r.cls = .txOctets)

/-- 90_conflicts.md C4, R22, R137: the framer is IDLE while a command of its own is outstanding, and only a wired
auxiliary port has one outstanding. -/
abbrev State.FlightOk (s : State) : Prop :=
  s.busy = true → (s.srcReg = .framer → s.fr = .idle) ∧ (s.srcReg = .aux → s.par.auxPresent = true)

/-- R30, R62, R102, R110: what the output signals of a cycle can be. -/
abbrev State.OutputsOk (s : State) : Prop :=
  (s.out.txValid = false → s.out.txHi = 0 ∧ s.out.txLo = 0) ∧
  (s.out.txValid = true → isResponse (s.out.txHi ++ s.out.txLo)) ∧
  (s.out.auxRespValid = false → s.out.auxResp = 0) ∧
  (s.out.auxRespValid = true → isResponse s.out.auxResp ∧ s.out.txValid = false ∧ s.par.auxPresent = true) ∧
  (s.out.diagValid = true ↔ s.out.diagCode ≠ .none) ∧
  s.out.diagCode ≠ .badOpcode ∧
  s.out.rxPop ≤ 2 ∧
  (s.out.auxTake = true → s.out.rxPop = 0 ∧ s.par.auxPresent = true)

/-- The invariant every step keeps. -/
structure State.Inv (s : State) : Prop where
  time : s.TimeOk
  upper : s.UpperOk
  request : s.req.Ok
  flight : s.FlightOk
  outputs : s.OutputsOk
  /-- R38: the wire carries whole two-byte responses. -/
  responses : s.tx.length % 2 = 0

/-- The command the coming cycle serves, if it serves one (R69, R76, R93, R96). -/
def State.served (s : State) : Option Instr :=
  match s.fetch with
  | .serve w _ => some (decode w)
  | .done _ => none

/-- The coming cycle forms a word from the wire (R93, R96). -/
def State.formsFramerWord (s : State) : Bool := s.served.isSome && !s.auxOffered

/-- The coming cycle writes `upper_len` (R13): a reset cycle, or it serves SETUP.RESET or SETUP.UPPER. -/
def State.writesUpper (s : State) : Bool :=
  s.pins.rst ||
    match s.served with
    | some (.setupReset _) => true
    | some (.setupUpper _) => true
    | _ => false

/-- The responses the block still owes to the wire: one while a framer command is outstanding (R102). -/
def State.owedToWire (s : State) : Nat := if s.busy = true ∧ s.srcReg = .framer then 1 else 0

/-- The words the framer forms in the next `n` cycles. -/
def framerWords : Nat → State → Nat
  | 0, _ => 0
  | n + 1, s =>
    (if s.formsFramerWord then 1 else 0) +
      match step s with
      | .next t => framerWords n t
      | .fault _ => 0
      | .refused _ => 0

/-- `n` cycles of the machine. -/
def run : Nat → State → Host.Outcome State Fault Refusal
  | 0, s => .next s
  | n + 1, s =>
    match step s with
    | .next t => run n t
    | .fault r => .fault r
    | .refused r => .refused r

/-- Two states that agree but for `hi` and `ts` while the framer is IDLE (93 I17). -/
def State.SameButStale (s t : State) : Prop :=
  t = { s with hi := t.hi, ts := t.ts } ∧ (s.fr = .await → s.hi = t.hi ∧ s.ts = t.ts)

/-- An environment input that does nothing but let `k` time units pass. -/
abbrev QuietInput (inp : CycleInput) (k : Nat) : Prop :=
  inp.arrivals = [] ∧ inp.advance = k ∧ inp.rst = false ∧ inp.execAck = false ∧ inp.auxValid = false

/-- What serving a decode error leaves (R54, R68, R107): an error answer at the command's source, a diagnostic pulse, and
nothing else. -/
def State.afterError (s : State) (code : DiagCode) : State :=
  if s.par.auxPresent = true ∧ s.pins.auxValid = true then
    { s with out := { s.out with auxRespValid := true, auxResp := 0x0000#16, diagValid := true, diagCode := code } }
  else
    { s with
      tx := s.tx ++ [0x00#8, 0x00#8]
      out := { s.out with txValid := true, txHi := 0x00#8, txLo := 0x00#8, diagValid := true, diagCode := code } }

/-- What serving a command that calls the executor leaves (R69, R70): the latched request, and nothing else. -/
def State.afterCall (s : State) (r : Request) : State :=
  { s with
    busy := true
    srcReg := if s.par.auxPresent = true ∧ s.pins.auxValid = true then .aux else .framer
    req := r }

/-- The answer the spec gives word number `n` (R80 to R89, R72), with the executor's answer `ans` where it is asked:
written over the word's ranges, with no decoding. -/
def specAnswer (n : Nat) (ans : Answer) : Nat :=
  if n < 0x0100 then (if ans.ok then 0x0001 else 0)
  else if n < 0x0200 then 0x0001
  else if n < 0x0400 then 0
  else if n < 0x0500 then 0x0001 + 2 * ans.features.toNat
  else if n ≤ 0x0510 then (if ans.ok then 0x0001 + 2 * ans.value.toNat else 0)
  else if n < 0x4000 then 0
  else if n < 0xC000 then (if ans.ok then 0x0001 else 0)
  else if n ≤ 0xC00A then (if ans.ok then 0x8000 + ans.count.toNat else 0)
  else 0

end Sys2Proof.Machine
end

