-- ==== Sys2Proof/Certificates/Slice0/Obligations.lean ====
section
/-! DEFINITION. The statements about the machine, from the rules of spec/. A basis of "derived" in OBLIGATIONS.json says that the statement rests on a decision or an inference of the spec, or on a log entry of the model. -/

open Sys2Proof Sys2Proof.Machine

/-! ### Encoding -/

/-- R47 to R51: decoding the word of a well-formed instruction gives the instruction back, with every operand, and leaves
the bytes after it. -/
def Obligations.DecodeOfEncodedInstruction : Prop :=
  ∀ (i : Instr) (rest : List Byte), i.wf = true →
    decode (encode i) = i ∧ decodeBytes (wordBytes (encode i) ++ rest) = .ok (i, rest)

/-- R56: every word decodes to a well-formed instruction, and that instruction's word is the word decoded. -/
def Obligations.EncodeOfDecodedWord : Prop :=
  ∀ w : Word, (decode w).wf = true ∧ encode (decode w) = w

/-- R56: every word lies in exactly one row of the opcode table, the row of the instruction it decodes to, and the
opcode field names that instruction's family. -/
def Obligations.EveryWordIsInExactlyOneTableRow : Prop :=
  ∀ w : Word,
    (opcodeTable.filter (fun r => r.covers w)).map Row.mnemonic = [(decode w).mnemonic] ∧
    (decode w).family.opcode = w.extractLsb' 14 2

/-- R48, R52, R53, R59: which command each number from 0x0000 to 0xFFFF is. -/
def Obligations.MnemonicByWordRange : Prop :=
  ∀ w : Word, (decode w).mnemonic =
    if w.toNat < 0x0100 then .SETUP_RESET
    else if w.toNat < 0x0200 then .SETUP_UPPER
    else if w.toNat < 0x0400 then .SETUP_RSVD
    else if w.toNat < 0x0500 then .SETUP_FEAT
    else if w.toNat ≤ 0x0510 then .SETUP_MAX
    else if w.toNat < 0x0600 then .SETUP_MAX_BADPARAM
    else if w.toNat < 0x4000 then .SETUP_RSVD
    else if w.toNat < 0x8000 then .RXTEST
    else if w.toNat < 0xC000 then .TXTEST
    else if w.toNat ≤ 0xC00A then .TESTEND
    else if w.toNat < 0xC100 then .TESTEND_BADPARAM
    else .TESTEND_BADCTRL

/-- R49, R51 (and R50's channel): a decoded word's family is named by its opcode field, and its operands are its bit
fields. -/
def Obligations.OperandsAreTheWordsFields : Prop :=
  ∀ w : Word, w.extractLsb' 14 2 = (decode w).family.opcode ∧
    match decode w with
    | .setupReset p => w.extractLsb' 8 6 = 0x00#6 ∧ p = w.extractLsb' 0 8
    | .setupUpper p => w.extractLsb' 8 6 = 0x01#6 ∧ p = w.extractLsb' 0 8
    | .setupFeat p => w.extractLsb' 8 6 = 0x04#6 ∧ p = w.extractLsb' 0 8
    | .setupMax p => w.extractLsb' 8 6 = 0x05#6 ∧ p = w.extractLsb' 0 8
    | .setupMaxBadparam p => w.extractLsb' 8 6 = 0x05#6 ∧ p = w.extractLsb' 0 8
    | .setupRsvd c p => c = w.extractLsb' 8 6 ∧ p = w.extractLsb' 0 8
    | .rxtest ch ign => ch = w.extractLsb' 8 6 ∧ ign = w.extractLsb' 0 8
    | .txtest ch len pkt => ch = w.extractLsb' 8 6 ∧ len = w.extractLsb' 2 6 ∧ pkt = w.extractLsb' 0 2
    | .testend p => w.extractLsb' 8 6 = 0x00#6 ∧ p = w.extractLsb' 0 8
    | .testendBadparam p => w.extractLsb' 8 6 = 0x00#6 ∧ p = w.extractLsb' 0 8
    | .testendBadctrl c p => c = w.extractLsb' 8 6 ∧ p = w.extractLsb' 0 8

/-- 95_test_vectors.md 2.1: sample words of every row's mnemonic decode to what the vectors say. -/
def Obligations.SampleWordsDecode : Prop :=
  decode 0x00FF#16 = .setupReset 0xFF#8 ∧ decode 0x010C#16 = .setupUpper 0x0C#8 ∧
  decode 0x0403#16 = .setupFeat 0x03#8 ∧ decode 0x0510#16 = .setupMax 0x10#8 ∧
  decode 0x0511#16 = .setupMaxBadparam 0x11#8 ∧ decode 0x0755#16 = .setupRsvd 0x07#6 0x55#8 ∧
  decode 0x4500#16 = .rxtest 5#6 0x00#8 ∧ decode 0x4014#16 = .rxtest 0#6 0x14#8 ∧
  decode 0x8395#16 = .txtest 3#6 0x25#6 1#2 ∧ decode 0xC00A#16 = .testend 0x0A#8 ∧
  decode 0xC00B#16 = .testendBadparam 0x0B#8 ∧ decode 0xC100#16 = .testendBadctrl 0x01#6 0x00#8

/-- R65 (the spec's own forms, 92 D22): the word of each assembler form decodes to the command it names, with its
operands; an operand outside its range spells no word. -/
def Obligations.AssemblerFormsSpellTheirCommands : Prop :=
  (∀ p, (assemble (.setupReset p)).map decode =
    if p.getD 0 ≤ 0xFF then some (.setupReset (BitVec.ofNat 8 (p.getD 0))) else none) ∧
  (∀ p, (assemble (.setupUpper p)).map decode =
    if p ≤ 0xFF then some (.setupUpper (BitVec.ofNat 8 p)) else none) ∧
  (∀ p, (assemble (.setupFeat p)).map decode =
    if p.getD 0 ≤ 0xFF then some (.setupFeat (BitVec.ofNat 8 (p.getD 0))) else none) ∧
  (∀ p, (assemble (.setupMax p)).map decode =
    if p ≤ 0x10 then some (.setupMax (BitVec.ofNat 8 p))
    else if p ≤ 0xFF then some (.setupMaxBadparam (BitVec.ofNat 8 p)) else none) ∧
  (∀ c p, (assemble (.setup c p)).map decode =
    if c ≤ 0x3F ∧ p ≤ 0xFF then some (decodeSetup (BitVec.ofNat 6 c) (BitVec.ofNat 8 p)) else none) ∧
  (∀ ch ign, (assemble (.rxtest ch ign)).map decode =
    if ch ≤ 63 ∧ ign.getD 0 ≤ 0xFF then some (.rxtest (BitVec.ofNat 6 ch) (BitVec.ofNat 8 (ign.getD 0))) else none) ∧
  (∀ ch len pkt, (assemble (.txtest ch len pkt)).map decode =
    if ch ≤ 63 ∧ len ≤ 63 ∧ pkt ≤ 3 then
      some (.txtest (BitVec.ofNat 6 ch) (BitVec.ofNat 6 len) (BitVec.ofNat 2 pkt)) else none) ∧
  (∀ p, (assemble (.testend p)).map decode =
    if p.getD 0 ≤ 0x0A then some (.testend (BitVec.ofNat 8 (p.getD 0)))
    else if p.getD 0 ≤ 0xFF then some (.testendBadparam (BitVec.ofNat 8 (p.getD 0))) else none) ∧
  (∀ c p, (assemble (.testendCtl c p)).map decode =
    if c ≤ 0x3F ∧ p ≤ 0xFF then some (decodeTestEnd (BitVec.ofNat 6 c) (BitVec.ofNat 8 p)) else none) ∧
  (∀ h, assemble (.word h) = if h ≤ 0xFFFF then some (BitVec.ofNat 16 h) else none)

/-! ### Operand assembly -/

/-- R57: Set Upper Bits stores its parameter shifted left by 4 and masked by 0xC0: of the parameter only bits [3:2]
survive, moved to bits [7:6]. -/
def Obligations.UpperValueKeepsTwoParameterBits : Prop :=
  ∀ p : Byte,
    (∀ s : State, ∃ t, exec (.setupUpper p) s = .next t ∧ t.upperLen = ((p.setWidth 16 <<< 4) &&& 0x00C0#16).setWidth 8) ∧
    ((p.setWidth 16 <<< 4) &&& 0x00C0#16).setWidth 8 = p.extractLsb' 2 2 ++ 0b000000#6

/-- R58 (an inference of the spec): with `upper_len[5:0] = 0` the effective length is `{upper_len[7:6], length[5:0]}`. -/
def Obligations.EffectiveLengthJoinsUpperBits : Prop :=
  ∀ (len : BitVec 6) (ul : Byte), ul &&& 0x3F#8 = 0x00#8 → effLength len ul = ul.extractLsb' 6 2 ++ len

/-- R59: the parameter ranges of the five classes. -/
def Obligations.ReadMaxClassRanges : Prop :=
  ∀ p : Byte, classOf p =
    if p.toNat ≤ 0x03 then some .txOctets
    else if p.toNat ≤ 0x07 then some .txTime
    else if p.toNat ≤ 0x0B then some .rxOctets
    else if p.toNat ≤ 0x0F then some .rxTime
    else if p.toNat = 0x10 then some .cteLength
    else none

/-- R63 (the spec's own bit positions, 92 D10): flag `i` is response bit `i + 1`, and no other payload bit is set. -/
def Obligations.FeatureFlagsSitAtBitsOneToNine : Prop :=
  ∀ f : BitVec 9,
    (∀ i, i < 9 → (featureMask f).getLsbD (i + 1) = f.getLsbD i) ∧
    (featureMask f).getLsbD 0 = false ∧ (∀ j, 10 ≤ j → (featureMask f).getLsbD j = false)

/-! ### Response encoder -/

/-- R72 (92 D9, D11): the encoder's six arms. -/
def Obligations.EncoderArms : Prop :=
  ∀ (ok : Bool) (v : BitVec 14) (c : BitVec 15) (f : BitVec 9),
    encodeAnswer .reset ⟨ok, v, c, f⟩ = (if ok then (0x0001#16, .none) else (0x0000#16, .execFail)) ∧
    encodeAnswer .readFeatures ⟨ok, v, c, f⟩ = (0x0001#16 ||| (f.setWidth 16 <<< 1), .none) ∧
    encodeAnswer .readMax ⟨ok, v, c, f⟩ =
      (if ok then (0x0001#16 ||| (v.setWidth 16 <<< 1), .none) else (0x0000#16, .execFail)) ∧
    encodeAnswer .startRx ⟨ok, v, c, f⟩ = (if ok then (0x0001#16, .none) else (0x0000#16, .execFail)) ∧
    encodeAnswer .startTx ⟨ok, v, c, f⟩ = (if ok then (0x0001#16, .none) else (0x0000#16, .execFail)) ∧
    encodeAnswer .endTest ⟨ok, v, c, f⟩ =
      (if ok then (0x8000#16 ||| c.setWidth 16, .none) else (0x0000#16, .execFail))

/-- R61: a packet-reporting event has bit 15 set and carries `exec_count` in bits [14:0]. -/
def Obligations.PacketReportCarriesTheCount : Prop :=
  ∀ ans : Answer, ans.ok = true →
    (encodeAnswer .endTest ans).1 = 0x8000#16 ||| ans.count.setWidth 16 ∧
    (encodeAnswer .endTest ans).1.getLsbD 15 = true ∧
    (encodeAnswer .endTest ans).1.extractLsb' 0 15 = ans.count

/-- R62 (an inference of the spec, 92 D9): every encoded answer is of exactly one of the three kinds, and it is the error
word exactly when a diagnostic code goes with it. -/
def Obligations.EveryAnswerIsOfExactlyOneKind : Prop :=
  ∀ (op : ExecOp) (ans : Answer),
    isResponse (encodeAnswer op ans).1 ∧
    ¬ (isSuccess (encodeAnswer op ans).1 ∧ isError (encodeAnswer op ans).1) ∧
    ¬ (isSuccess (encodeAnswer op ans).1 ∧ isReport (encodeAnswer op ans).1) ∧
    ¬ (isError (encodeAnswer op ans).1 ∧ isReport (encodeAnswer op ans).1) ∧
    (isReport (encodeAnswer op ans).1 ↔ op = .endTest ∧ ans.ok = true) ∧
    (isError (encodeAnswer op ans).1 ↔ (encodeAnswer op ans).2 = .execFail)

/-- R108: a failed Result answers 0x0000 with EXEC_FAIL for the five operations that have one; READ_FEATURES cannot
fail; a Reset clears `upper_len` when it is served, and a completion, failed or not, leaves it as it is. -/
def Obligations.ExecutorFailureAnswersZero : Prop :=
  (∀ (op : ExecOp) (ans : Answer), op ≠ .readFeatures → ans.ok = false →
    encodeAnswer op ans = (0x0000#16, .execFail)) ∧
  (∀ ans : Answer, isSuccess (encodeAnswer .readFeatures ans).1 ∧ (encodeAnswer .readFeatures ans).2 = .none) ∧
  (∀ (p : Byte) (s : State), ∃ t, exec (.setupReset p) s = .next t ∧ t.req.op = .reset ∧ t.upperLen = 0x00#8) ∧
  (∀ s : State, s.complete.upperLen = s.upperLen)

/-! ### The commands: result, frame and completion -/

/-- R80 (92 D13, D14): SETUP.RESET clears `upper_len` in the serve cycle and requests RESET; nothing else changes. -/
def Obligations.SetupResetClearsUpperLenAndCalls : Prop :=
  ∀ (p : Byte) (s : State),
    exec (.setupReset p) s = .next { s.afterCall ⟨.reset, 0, 0, 0, .txOctets⟩ with upperLen := 0x00#8 }

/-- R81 (92 D13): SETUP.UPPER overwrites `upper_len` with `{p[3:2], 000000}` and answers 0x0001 in the serve cycle, on the
wire or on the auxiliary port; nothing else changes. -/
def Obligations.SetupUpperWritesUpperLenAndAnswers : Prop :=
  ∀ (p : Byte) (s : State),
    (¬ (s.par.auxPresent = true ∧ s.pins.auxValid = true) →
      exec (.setupUpper p) s = .next { s with
        upperLen := p.extractLsb' 2 2 ++ 0b000000#6
        tx := s.tx ++ [0x00#8, 0x01#8]
        out := { s.out with txValid := true, txHi := 0x00#8, txLo := 0x01#8 } }) ∧
    ((s.par.auxPresent = true ∧ s.pins.auxValid = true) →
      exec (.setupUpper p) s = .next { s with
        upperLen := p.extractLsb' 2 2 ++ 0b000000#6
        out := { s.out with auxRespValid := true, auxResp := 0x0001#16 } })

/-- R82 (92 D11): SETUP.FEAT requests READ_FEATURES, whatever its parameter; nothing else changes. -/
def Obligations.SetupFeatCallsReadFeatures : Prop :=
  ∀ (p : Byte) (s : State), exec (.setupFeat p) s = .next (s.afterCall ⟨.readFeatures, 0, 0, 0, .txOctets⟩)

/-- R83, R59 (92 D12): a Read Max word requests READ_MAX of its parameter's class when the parameter is at most 0x10, and
answers 0x0000 with BAD_PARAM above; nothing else changes. Both constructors, in and out of their rows' ranges. -/
def Obligations.ReadMaxCallsItsClassOrAnswersBadParam : Prop :=
  ∀ (p : Byte) (s : State),
    (p.toNat ≤ 0x10 →
      exec (.setupMax p) s = .next (s.afterCall ⟨.readMax, 0, 0, 0,
        if p.toNat < 0x04 then .txOctets else if p.toNat < 0x08 then .txTime
        else if p.toNat < 0x0C then .rxOctets else if p.toNat < 0x10 then .rxTime else .cteLength⟩) ∧
      exec (.setupMaxBadparam p) s = exec (.setupMax p) s) ∧
    (0x10 < p.toNat →
      exec (.setupMaxBadparam p) s = .next (s.afterError .badParam) ∧
      exec (.setupMax p) s = .next (s.afterError .badParam))

/-- R84: a Test Setup word with a reserved control decodes to SETUP.RSVD, which answers 0x0000 with BAD_CONTROL for every
parameter and changes nothing else. -/
def Obligations.ReservedSetupControlAnswersZero : Prop :=
  ∀ (c : BitVec 6) (p : Byte) (s : State),
    (c ≠ 0x00#6 → c ≠ 0x01#6 → c ≠ 0x04#6 → c ≠ 0x05#6 → decode (0b00#2 ++ c ++ p) = .setupRsvd c p) ∧
    exec (.setupRsvd c p) s = .next (s.afterError .badControl)

/-- R85: RXTEST requests START_RX on its channel, its ignored bits have no effect, and its answer is 0x0001 or 0x0000;
nothing else changes. -/
def Obligations.RxTestCallsStartRx : Prop :=
  ∀ (ch : BitVec 6) (ign : Byte) (s : State),
    decode (0b01#2 ++ ch ++ ign) = .rxtest ch ign ∧
    exec (.rxtest ch ign) s = .next (s.afterCall ⟨.startRx, ch, 0, 0, .txOctets⟩) ∧
    (∀ ans : Answer, encodeAnswer .startRx ans = if ans.ok then (0x0001#16, .none) else (0x0000#16, .execFail))

/-- R86, R88: TXTEST requests START_TX on its channel with the length ORed with `upper_len` and its packet type as the
pattern; `upper_len` is kept and nothing else changes. -/
def Obligations.TxTestCallsStartTxWithUpperBits : Prop :=
  ∀ (ch len : BitVec 6) (pkt : BitVec 2) (s : State),
    decode (0b10#2 ++ ch ++ len ++ pkt) = .txtest ch len pkt ∧
    exec (.txtest ch len pkt) s =
      .next (s.afterCall ⟨.startTx, ch, (len &&& 0x3F#6).setWidth 8 ||| s.upperLen, pkt, .txOctets⟩) ∧
    (s.afterCall ⟨.startTx, ch, (len &&& 0x3F#6).setWidth 8 ||| s.upperLen, pkt, .txOctets⟩).upperLen = s.upperLen ∧
    (∀ ans : Answer, encodeAnswer .startTx ans = if ans.ok then (0x0001#16, .none) else (0x0000#16, .execFail))

/-- R89, R90 (92 D29): TESTEND with a parameter of at most 0x0A requests END_TEST without passing the parameter; nothing
else changes. -/
def Obligations.TestEndCallsEndTest : Prop :=
  ∀ (p : Byte) (s : State), p.toNat ≤ 0x0A →
    exec (.testend p) s = .next (s.afterCall ⟨.endTest, 0, 0, 0, .txOctets⟩)

/-- R89, R114 (92 D29): a Test End with a nonzero control answers 0x0000 with BAD_CONTROL, one with control 0 and a
parameter above 0x0A answers 0x0000 with BAD_PARAM; nothing else changes. With the operands of another row, an error
constructor does what that row's word does. -/
def Obligations.TestEndErrorsAnswerZero : Prop :=
  ∀ (c : BitVec 6) (p : Byte) (s : State),
    (c ≠ 0x00#6 → exec (.testendBadctrl c p) s = .next (s.afterError .badControl)) ∧
    (c = 0x00#6 → exec (.testendBadctrl c p) s = exec (.testend p) s) ∧
    (0x0A < p.toNat → exec (.testendBadparam p) s = .next (s.afterError .badParam) ∧
      exec (.testend p) s = .next (s.afterError .badParam)) ∧
    (p.toNat ≤ 0x0A → exec (.testendBadparam p) s = exec (.testend p) s)

/-- R55 (92 D11, D12, D13, D29): bits a valid command ignores have no effect. -/
def Obligations.IgnoredBitsHaveNoEffect : Prop :=
  ∀ (s : State) (p q : Byte),
    exec (.setupReset p) s = exec (.setupReset q) s ∧
    exec (.setupFeat p) s = exec (.setupFeat q) s ∧
    (∀ ch : BitVec 6, exec (.rxtest ch p) s = exec (.rxtest ch q) s) ∧
    (p.extractLsb' 2 2 = q.extractLsb' 2 2 → exec (.setupUpper p) s = exec (.setupUpper q) s) ∧
    (p.toNat ≤ 0x0F → q.toNat ≤ 0x0F → p.extractLsb' 2 2 = q.extractLsb' 2 2 →
      exec (.setupMax p) s = exec (.setupMax q) s) ∧
    (p.toNat ≤ 0x0A → q.toNat ≤ 0x0A → exec (.testend p) s = exec (.testend q) s)

/-- R87, R64 (92 D23): the packet type is the pattern code on the executor port, and the codes name the patterns of R87;
code 3 names whatever PATTERN3 is. -/
def Obligations.PacketTypeIsThePatternCode : Prop :=
  (∀ (ch len : BitVec 6) (pkt : BitVec 2) (s : State),
    ∃ t, exec (.txtest ch len pkt) s = .next t ∧ t.req.pattern = pkt ∧ t.execPort.pattern = pkt) ∧
  patternOf 0#2 = .prbs9 ∧ patternOf 1#2 = .fixed0F ∧ patternOf 2#2 = .fixed55 ∧
  patternOf 3#2 = .third Config.pattern3

/-- The source's §8 properties 1.1 and 1.2 (95_test_vectors.md): after Set Upper Bits `p` a Transmitter Test sends the
length `(len & 0x3F) | ((p << 4) & 0xC0)`, and after Reset it sends `len`. -/
def Obligations.TransmitLengthAfterUpperAndAfterReset : Prop :=
  ∀ (p : Byte) (ch len : BitVec 6) (pkt : BitVec 2) (s : State),
    (∃ t u, exec (.setupUpper p) s = .next t ∧ exec (.txtest ch len pkt) t = .next u ∧
      u.req.length.toNat = len.toNat + 64 * (p.toNat / 4 % 4)) ∧
    (∃ t u, exec (.setupReset p) s = .next t ∧ exec (.txtest ch len pkt) t = .next u ∧
      u.req.length.toNat = len.toNat)

/-! ### The cycle, case by case -/

/-- R20 (92 D7, D8; log 11 for the cycles without a request): the executor port shows `busy` and the request's codes,
and, where unused fields are 0, the request's arguments. -/
def Obligations.ExecutorPortShowsTheRequest : Prop :=
  ∀ s : State, s.req.Ok →
    s.execPort = ⟨s.busy, s.req.op.code, s.req.channel, s.req.length, s.req.pattern, s.req.cls.code⟩ ∧
    s.req.op.code ≤ 5 ∧ s.req.cls.code ≤ 4

/-- R93: an idle framer that finds two or more bytes pops exactly two and serves the word they form, first byte high, in
the same cycle. -/
def Obligations.FastPathServesTwoBytes : Prop :=
  ∀ (s : State) (b0 b1 : Byte) (rest : List Byte), s.pins.rst = false → s.busy = false →
    ¬ (s.par.auxPresent = true ∧ s.pins.auxValid = true) → s.fr = .idle → s.rx = b0 :: b1 :: rest →
    step s = afterCycle (exec (decode (b0 ++ b1)) { s with rx := rest, out := { Outputs.idle with rxPop := 2 } })

/-- R94 (92 D3): an idle framer that finds one byte takes it as the high byte, with the time of the poll, and serves
nothing. -/
def Obligations.IdlePollTakesTheHighByte : Prop :=
  ∀ (s : State) (b : Byte), s.pins.rst = false → s.busy = false →
    ¬ (s.par.auxPresent = true ∧ s.pins.auxValid = true) → s.fr = .idle → s.rx = [b] → s.pins.now < 2 ^ s.par.timeW →
    step s = .next ({ s with
      hi := b, ts := s.pins.now, fr := .await, rx := [], out := { Outputs.idle with rxPop := 1 } }).between

/-- R95: an idle framer that finds no byte changes nothing and drives nothing. -/
def Obligations.IdlePollOfEmptyFifoYields : Prop :=
  ∀ s : State, s.pins.rst = false → s.busy = false →
    ¬ (s.par.auxPresent = true ∧ s.pins.auxValid = true) → s.fr = .idle → s.rx = [] →
    step s = .next ({ s with out := Outputs.idle }).between

/-- R96: a framer that awaits the second byte and finds one pops exactly one byte, returns to IDLE and serves the word
in the same cycle, however long ago the high byte came. -/
def Obligations.AwaitPollCompletesTheWord : Prop :=
  ∀ (s : State) (b : Byte) (rest : List Byte), s.pins.rst = false → s.busy = false →
    ¬ (s.par.auxPresent = true ∧ s.pins.auxValid = true) → s.fr = .await → s.rx = b :: rest →
    step s = afterCycle (exec (decode (s.hi ++ b))
      { s with rx := rest, fr := .idle, out := { Outputs.idle with rxPop := 1 } })

/-- R97 (the strict threshold: 92 D4): an empty AWAIT poll at more than 5 elapsed time units drops the high byte and
pulses DESYNC; nothing else changes. -/
def Obligations.TimeoutDropsTheHighByte : Prop :=
  ∀ s : State, s.pins.rst = false → s.busy = false →
    ¬ (s.par.auxPresent = true ∧ s.pins.auxValid = true) → s.fr = .await → s.rx = [] → 5 < s.elapsed →
    step s = .next ({ s with
      fr := .idle, out := { Outputs.idle with diagValid := true, diagCode := .desync } }).between

/-- R98: an empty AWAIT poll at 5 elapsed time units or fewer changes nothing and drives nothing. -/
def Obligations.AwaitPollWithinTheTimeoutYields : Prop :=
  ∀ s : State, s.pins.rst = false → s.busy = false →
    ¬ (s.par.auxPresent = true ∧ s.pins.auxValid = true) → s.fr = .await → s.rx = [] → s.elapsed ≤ 5 →
    step s = .next ({ s with out := Outputs.idle }).between

/-- R99 (92 D2, D3): the elapsed time is the difference of two TIME_W-bit values modulo 2^TIME_W. -/
def Obligations.ElapsedIsTheModularDifference : Prop :=
  ∀ s : State, s.TimeOk →
    (s.elapsed : Int) = ((s.pins.now : Int) - (s.ts : Int)) % (2 ^ s.par.timeW : Nat)

/-- R76 (92 D15): in a cycle without reset or outstanding request, an offered auxiliary word is taken and served; the RX
FIFO and the framer's registers are not touched, whatever they hold. -/
def Obligations.AuxiliaryWordIsServedFirst : Prop :=
  ∀ s : State, s.pins.rst = false → s.busy = false → s.par.auxPresent = true → s.pins.auxValid = true →
    step s = afterCycle (exec (decode s.pins.auxWord) { s with out := { Outputs.idle with auxTake := true } })

/-- R71 (92 D7): a cycle that finds an outstanding request acknowledged encodes the answer, delivers it where the command
came from, pulses the failure's code if there is one, and clears `busy`; nothing else changes. -/
def Obligations.AcknowledgedRequestCompletes : Prop :=
  ∀ s : State, s.pins.rst = false → s.busy = true → s.pins.execAck = true →
    (s.srcReg = .framer → step s = .next ({ s with
      busy := false
      tx := s.tx ++ [(encodeAnswer s.req.op s.pins.answer).1.extractLsb' 8 8,
        (encodeAnswer s.req.op s.pins.answer).1.extractLsb' 0 8]
      out := { Outputs.idle with
        txValid := true
        txHi := (encodeAnswer s.req.op s.pins.answer).1.extractLsb' 8 8
        txLo := (encodeAnswer s.req.op s.pins.answer).1.extractLsb' 0 8
        diagValid := decide ((encodeAnswer s.req.op s.pins.answer).2 ≠ DiagCode.none)
        diagCode := (encodeAnswer s.req.op s.pins.answer).2 } }).between) ∧
    (s.srcReg = .aux → step s = .next ({ s with
      busy := false
      out := { Outputs.idle with
        auxRespValid := true
        auxResp := (encodeAnswer s.req.op s.pins.answer).1
        diagValid := decide ((encodeAnswer s.req.op s.pins.answer).2 ≠ DiagCode.none)
        diagCode := (encodeAnswer s.req.op s.pins.answer).2 } }).between)

/-- R71, R113 (92 D7): a cycle that finds an outstanding request unanswered changes nothing and drives nothing: no pop, no
auxiliary word taken. -/
def Obligations.UnansweredRequestWaits : Prop :=
  ∀ s : State, s.pins.rst = false → s.busy = true → s.pins.execAck = false →
    step s = .next ({ s with out := Outputs.idle }).between

/-- R124, R26 (92 D17): a reset cycle gives every register its reset value, drives nothing and touches no byte of the
channels. -/
def Obligations.ResetCycleSetsEveryRegister : Prop :=
  ∀ s : State, s.pins.rst = true →
    step s = .next ({ s with
      upperLen := 0x00#8, fr := .idle, hi := 0x00#8, ts := 0, busy := false, srcReg := .framer,
      req := ⟨.reset, 0, 0, 0, .txOctets⟩, out := Outputs.idle }).between

/-- R10, R25, R40 in the model's form (log 2, log 5): between two cycles the sender's bytes join the FIFO's tail, the time
source advances modulo 2^TIME_W, and the other pins take the script's next entry, or a free draw when there is none. -/
def Obligations.EnvironmentMovesBetweenCycles : Prop :=
  (∀ (s : State) (inp : CycleInput) (rest : List CycleInput), s.script = inp :: rest →
    s.between = { s with
      rx := s.rx ++ inp.arrivals
      pins := ⟨inp.rst, (s.pins.now + inp.advance) % 2 ^ s.par.timeW, inp.execAck, inp.answer, inp.auxValid, inp.auxWord⟩
      script := rest }) ∧
  (∀ s : State, s.script = [] → ∃ inp : CycleInput, inp = Config.freeInput s.draws ∧
    s.between = { s with
      rx := s.rx ++ inp.arrivals
      pins := ⟨inp.rst, (s.pins.now + inp.advance) % 2 ^ s.par.timeW, inp.execAck, inp.answer, inp.auxValid, inp.auxWord⟩
      draws := s.draws + 1 })

/-! ### The whole machine -/

/-- R13: only hardware reset, SETUP.RESET and SETUP.UPPER change `upper_len`, to the values the rule gives; and no cycle
that serves anything but a TXTEST depends on it: with another value in it the cycle does the same, on every port and in
every other register. -/
def Obligations.UpperLenWritersAndReader : Prop :=
  (∀ s t : State, step s = .next t →
    t.upperLen =
      if s.pins.rst = true then 0x00#8
      else match s.served with
        | some (.setupReset _) => 0x00#8
        | some (.setupUpper p) => ((p.setWidth 16 <<< 4) &&& 0x00C0#16).setWidth 8
        | _ => s.upperLen) ∧
  (∀ (s t : State) (u : Byte), step s = .next t → (∀ ch len pkt, s.served ≠ some (.txtest ch len pkt)) →
    step { s with upperLen := u } = .next { t with upperLen := if s.writesUpper then t.upperLen else u })

/-- R107: the decode errors are exactly the words listed: each answers 0x0000 with its code, calls no executor and
writes no `upper_len`; serving any other word pulses no diagnostic. -/
def Obligations.DecodeErrorsAreExactlyTheListedWords : Prop :=
  ∀ (w : Word) (s : State) (o c p : Nat), o = w.toNat / 0x4000 → c = w.toNat / 0x100 % 0x40 → p = w.toNat % 0x100 →
    (((o = 0 ∧ c ≠ 0x00 ∧ c ≠ 0x01 ∧ c ≠ 0x04 ∧ c ≠ 0x05) ∨ (o = 3 ∧ c ≠ 0)) →
      exec (decode w) s = .next (s.afterError .badControl)) ∧
    (((o = 0 ∧ c = 0x05 ∧ 0x10 < p) ∨ (o = 3 ∧ c = 0 ∧ 0x0A < p)) →
      exec (decode w) s = .next (s.afterError .badParam)) ∧
    (¬ ((o = 0 ∧ c ≠ 0x00 ∧ c ≠ 0x01 ∧ c ≠ 0x04 ∧ c ≠ 0x05) ∨ (o = 3 ∧ c ≠ 0)) →
      ¬ ((o = 0 ∧ c = 0x05 ∧ 0x10 < p) ∨ (o = 3 ∧ c = 0 ∧ 0x0A < p)) →
      ∃ t, exec (decode w) s = .next t ∧ t.out.diagValid = s.out.diagValid ∧ t.out.diagCode = s.out.diagCode)

/-- R109: a cycle that pulses DESYNC is a timeout's drop: it writes no response, sends no word to the dispatcher, and
changes only `fr`. -/
def Obligations.DesyncChangesOnlyTheFramerState : Prop :=
  ∀ s t : State, step s = .next t → t.out.diagCode = .desync →
    s.served = none ∧ s.fr = .await ∧ s.rx = [] ∧ 5 < s.elapsed ∧
    t = ({ s with fr := .idle, out := { Outputs.idle with diagValid := true, diagCode := .desync } }).between

/-- R77, R105: serving a command has only these effects: a write of `upper_len` (by SETUP.RESET and SETUP.UPPER alone),
and either a latched request or exactly one response, at the command's source, with at most one diagnostic pulse. -/
def Obligations.ServingHasOnlyTheListedEffects : Prop :=
  ∀ (i : Instr) (s : State), ∃ t, exec i s = .next t ∧
    t.fr = s.fr ∧ t.hi = s.hi ∧ t.ts = s.ts ∧ t.rx = s.rx ∧ t.par = s.par ∧ t.pins = s.pins ∧ t.script = s.script ∧
    t.draws = s.draws ∧ t.out.rxPop = s.out.rxPop ∧ t.out.auxTake = s.out.auxTake ∧
    ((∀ p, i ≠ .setupReset p) → (∀ p, i ≠ .setupUpper p) → t.upperLen = s.upperLen) ∧
    ((t.busy = true ∧ t.srcReg = s.source ∧ t.tx = s.tx ∧ t.out = s.out) ∨
      (t.busy = s.busy ∧ t.srcReg = s.srcReg ∧ t.req = s.req ∧
        ((s.source = .framer ∧ t.out.txValid = true ∧ t.tx = s.tx ++ [t.out.txHi, t.out.txLo] ∧
            t.out.auxRespValid = s.out.auxRespValid ∧ t.out.auxResp = s.out.auxResp) ∨
          (s.source = .aux ∧ t.out.auxRespValid = true ∧ t.tx = s.tx ∧
            t.out.txValid = s.out.txValid ∧ t.out.txHi = s.out.txHi ∧ t.out.txLo = s.out.txLo))))

/-- R32, R38, R40 (an inference of the spec; 92 D5, D6): bytes leave the FIFO only at its head, as many as `rx_pop`
says and never more than the poll saw; bytes join the TX stream only at its tail, the two driven on the port; the FIFO
grows only by the sender's bytes. -/
def Obligations.ChannelsMoveOnlyByPopsAndWrites : Prop :=
  ∀ s t : State, step s = .next t →
    t.tx = s.tx ++ (if t.out.txValid = true then [t.out.txHi, t.out.txLo] else []) ∧
    t.out.rxPop.toNat ≤ s.rxCount ∧
    t.rx = s.rx.drop t.out.rxPop.toNat ++
      (match s.script with
        | inp :: _ => inp.arrivals
        | [] => (Config.freeInput s.draws).arrivals)

/-- R102: over any number of cycles without a hardware reset, the wire gets exactly one two-byte response for each word
the framer forms, a response still owed counted with them, and nothing for anything else. -/
def Obligations.EveryFramerWordGetsExactlyOneResponse : Prop :=
  ∀ (n : Nat) (s : State), (∀ k u, k < n → run k s = .next u → u.pins.rst = false) →
    ∃ t, run n s = .next t ∧
      t.tx.length + 2 * t.owedToWire = s.tx.length + 2 * s.owedToWire + 2 * framerWords n s

/-- R111: no word faults, stalls or refuses: every cycle has a next state, every word served is answered at once with a
response of one of the three kinds or becomes an executor request, and every answer of the executor encodes to one. -/
def Obligations.EveryWordGetsAWellFormedResponse : Prop :=
  (∀ s : State, ∃ t, step s = .next t) ∧
  (∀ (w : Word) (s : State), ∃ t, exec (decode w) s = .next t ∧
    ((t.busy = true ∧ t.req.Ok) ∨
      (t.out.txValid = true ∧ isResponse (t.out.txHi ++ t.out.txLo)) ∨
      (t.out.auxRespValid = true ∧ isResponse t.out.auxResp))) ∧
  (∀ (op : ExecOp) (ans : Answer), isResponse (encodeAnswer op ans).1)

/-- R14, R6, R18, R30, R62, R78, R137 and 90_conflicts.md C4: every step keeps the invariant. -/
def Obligations.StepKeepsTheInvariant : Prop :=
  ∀ s t : State, s.Inv → step s = .next t → t.Inv

/-- The invariant holds after reset. -/
def Obligations.ResetStateMeetsTheInvariant : Prop := State.reset.Inv

/-- R26, R127 (92 D17) for the registers, R6 for the default parameters, log 12 for the environment's fields: the state
after reset. -/
def Obligations.ResetStateHoldsTheResetValues : Prop :=
  State.reset.upperLen = 0x00#8 ∧ State.reset.fr = .idle ∧ State.reset.hi = 0x00#8 ∧ State.reset.ts = 0 ∧
  State.reset.busy = false ∧ State.reset.srcReg = .framer ∧ State.reset.req = ⟨.reset, 0, 0, 0, .txOctets⟩ ∧
  State.reset.out = ⟨0, false, 0, 0, false, false, 0, false, .none⟩ ∧
  State.reset.execPort = ⟨false, 0, 0, 0, 0, 0⟩ ∧
  State.reset.par.timeW = 32 ∧ State.reset.par.auxPresent = true ∧
  State.reset.rx = [] ∧ State.reset.tx = [] ∧ State.reset.script = []

/-- R16, R17 (92 D17, 93 I17): `hi` and `ts` are not read while the framer is IDLE: two states that differ only there step
to two states that differ at most there, so no port, no byte and no other register ever tells them apart. -/
def Obligations.StaleFramingRegistersAreNeverObserved : Prop :=
  ∀ s t s' : State, s.SameButStale t → step s = .next s' → ∃ t', step t = .next t' ∧ s'.SameButStale t'

/-- R22 (92 D15): with AUX_PRESENT false the auxiliary pins have no effect. -/
def Obligations.UnwiredAuxiliaryPortHasNoEffect : Prop :=
  ∀ (s t : State) (v : Bool) (w : Word), s.par.auxPresent = false → step s = .next t →
    step { s with pins := { s.pins with auxValid := v, auxWord := w } } = .next t

/-- R20, R125 (92 D7, D18): an acknowledgement without an outstanding request has no effect, and a reset cycle abandons
an outstanding request without a response. -/
def Obligations.AcknowledgementWithoutRequestIsIgnored : Prop :=
  (∀ (s t : State) (a : Bool) (ans : Answer), s.busy = false → step s = .next t →
    step { s with pins := { s.pins with execAck := a, answer := ans } } = .next t) ∧
  (∀ s : State, s.busy = true → s.pins.rst = true →
    ∃ t, step s = .next t ∧ t.busy = false ∧ t.execPort.req = false ∧ t.tx = s.tx ∧ t.out = Outputs.idle)

/-- R103, R100 (inferences of the spec): bytes `a` and `b` form the same command whether both are found at one poll or
`b` comes at the next, however much time passes in between. -/
def Obligations.SlowPathFormsTheFastPathsWord : Prop :=
  ∀ (s : State) (a b : Byte) (more : List Byte) (inp : CycleInput) (rest : List CycleInput),
    s.pins.rst = false → s.busy = false → ¬ (s.par.auxPresent = true ∧ s.pins.auxValid = true) → s.fr = .idle →
    s.rx = [a] → s.script = inp :: rest → inp.rst = false → inp.auxValid = false → inp.arrivals = b :: more →
    ({ s with rx := a :: b :: more }).served = some (decode (a ++ b)) ∧
    s.served = none ∧ ∃ t, step s = .next t ∧ t.served = some (decode (a ++ b))

/-- R134: `upper_len` keeps its value across every cycle but those that reset the block or serve SETUP.RESET or
SETUP.UPPER, and a Transmitter Test then uses that value. -/
def Obligations.UpperLenPersistsUntilRewritten : Prop :=
  ∀ (n : Nat) (s t : State), run n s = .next t →
    (∀ k u, k < n → run k s = .next u → u.writesUpper = false) →
    t.upperLen = s.upperLen ∧
    ∀ (ch len : BitVec 6) (pkt : BitVec 2), ∃ v, exec (.txtest ch len pkt) t = .next v ∧
      v.req.length = (len &&& 0x3F#6).setWidth 8 ||| s.upperLen

/-- R70, R122, R137 (92 D7): while the executor does not answer and no reset comes, the request and every register keep
their values, nothing is written, and the FIFO only grows, for any number of cycles. -/
def Obligations.RequestIsHeldUntilAnswered : Prop :=
  ∀ (n : Nat) (s : State), s.busy = true → s.pins.rst = false → s.pins.execAck = false → n ≤ s.script.length →
    (∀ inp ∈ s.script.take n, inp.rst = false ∧ inp.execAck = false) →
    ∃ t, run n s = .next t ∧ t.busy = true ∧ t.req = s.req ∧ t.srcReg = s.srcReg ∧ t.upperLen = s.upperLen ∧
      t.fr = s.fr ∧ t.hi = s.hi ∧ t.ts = s.ts ∧ t.tx = s.tx ∧ s.rx <+: t.rx ∧ t.execPort = s.execPort

/-- R138, R130 (92 D4): polled once per time unit with nothing arriving, a held high byte at `k` elapsed units is kept
for 6 - k polls and dropped, with DESYNC and no response, by the next one. -/
def Obligations.HeldByteIsDroppedSixUnitsAfterItCame : Prop :=
  ∀ (s : State) (k : Nat) (pre rest : List CycleInput), s.TimeOk → s.fr = .await → s.busy = false →
    s.pins.rst = false → s.pins.auxValid = false → s.rx = [] → s.elapsed = k → k ≤ 5 →
    s.script = pre ++ rest → pre.length = 6 - k → (∀ inp ∈ pre, QuietInput inp 1) →
    (∃ t, run (6 - k) s = .next t ∧ t.fr = .await ∧ t.hi = s.hi ∧ t.elapsed = 6 ∧ t.tx = s.tx) ∧
    (∃ u, run (7 - k) s = .next u ∧ u.fr = .idle ∧ u.out.diagCode = .desync ∧ u.tx = s.tx)

/-- R80 to R89 and R72 end to end (92 D7, D26): two bytes found by an idle framer are answered on the wire, in this cycle or
when the executor answers in the next, with exactly the two bytes of the answer the spec gives their word. -/
def Obligations.FramerCommandIsAnsweredOnTheWire : Prop :=
  ∀ (s : State) (b0 b1 : Byte) (inp : CycleInput) (rest : List CycleInput), s.pins.rst = false → s.busy = false →
    ¬ (s.par.auxPresent = true ∧ s.pins.auxValid = true) → s.fr = .idle → s.rx = [b0, b1] → s.script = inp :: rest →
    inp.rst = false → inp.execAck = true → inp.auxValid = false → inp.arrivals = [] →
    ∃ t hi lo, run 2 s = .next t ∧ t.busy = false ∧ t.fr = .idle ∧ t.tx = s.tx ++ [hi, lo] ∧
      hi.toNat * 0x100 + lo.toNat = specAnswer (b0.toNat * 0x100 + b1.toNat) inp.answer

/-! ### The codes on the ports -/

/-- R64, R59, R110 (the spec's own codes, 92 D8, D12, D16): the number of every operation, class and diagnostic code, and
that the executor port and the diagnostic port show them. -/
def Obligations.PortCodesAreTheSpecsNumbers : Prop :=
  (ExecOp.reset.code = 0#3 ∧ ExecOp.readFeatures.code = 1#3 ∧ ExecOp.readMax.code = 2#3 ∧ ExecOp.startRx.code = 3#3 ∧
    ExecOp.startTx.code = 4#3 ∧ ExecOp.endTest.code = 5#3) ∧
  (ValueClass.txOctets.code = 0#3 ∧ ValueClass.txTime.code = 1#3 ∧ ValueClass.rxOctets.code = 2#3 ∧
    ValueClass.rxTime.code = 3#3 ∧ ValueClass.cteLength.code = 4#3) ∧
  (DiagCode.none.code = 0#3 ∧ DiagCode.desync.code = 1#3 ∧ DiagCode.badControl.code = 2#3 ∧
    DiagCode.badParam.code = 3#3 ∧ DiagCode.execFail.code = 4#3 ∧ DiagCode.badOpcode.code = 5#3) ∧
  ∀ s : State,
    s.execPort.op = s.req.op.code ∧
    s.execPort.cls = (if s.req.op = .readMax then s.req.cls.code else 0#3) ∧
    s.diagPort = ⟨s.out.diagValid, s.out.diagCode.code⟩
end

