-- ==== Sys2Proof/Laws/Encoding.lean ====
section
/-! SUPPORT. The three formats (30_encoding.md R49 to R51), the bit fields and the byte order (R33, R34) as numbers, and the field lemmas that follow. -/

namespace Sys2Proof

/-- Concatenation as a number. -/
theorem append_toNat {m n : Nat} (a : BitVec m) (b : BitVec n) : (a ++ b).toNat = a.toNat * 2 ^ n + b.toNat := by
  rw [BitVec.toNat_append, ← Nat.shiftLeft_add_eq_or_of_lt b.isLt, Nat.shiftLeft_eq]

theorem joinBytes_toNat (a b : Byte) : (joinBytes a b).toNat = a.toNat * 256 + b.toNat := append_toNat a b

theorem formatCP_toNat (o : BitVec 2) (c : BitVec 6) (p : Byte) :
    (formatCP o c p).toNat = o.toNat * 16384 + c.toNat * 256 + p.toNat := by
  have h1 : (formatCP o c p).toNat = (o ++ c).toNat * 256 + p.toNat := append_toNat (o ++ c) p
  have h2 : (o ++ c).toNat = o.toNat * 64 + c.toNat := append_toNat o c
  rw [h1, h2]; ring

theorem formatRX_toNat (ch : BitVec 6) (ign : Byte) :
    (formatRX ch ign).toNat = 16384 + ch.toNat * 256 + ign.toNat := by
  have h : (formatRX ch ign).toNat = (0b01#2).toNat * 16384 + ch.toNat * 256 + ign.toNat := formatCP_toNat 0b01#2 ch ign
  rw [h]; rfl

theorem formatTX_toNat (ch len : BitVec 6) (pkt : BitVec 2) :
    (formatTX ch len pkt).toNat = 32768 + ch.toNat * 256 + len.toNat * 4 + pkt.toNat := by
  have h1 : (formatTX ch len pkt).toNat = (0b10#2 ++ ch ++ len).toNat * 4 + pkt.toNat :=
    append_toNat (0b10#2 ++ ch ++ len) pkt
  have h2 : (0b10#2 ++ ch ++ len).toNat = (0b10#2 ++ ch).toNat * 64 + len.toNat := append_toNat (0b10#2 ++ ch) len
  have h3 : (0b10#2 ++ ch).toNat = (0b10#2).toNat * 64 + ch.toNat := append_toNat 0b10#2 ch
  rw [h1, h2, h3, show (0b10#2).toNat = 2 from rfl]; ring

theorem highByte_toNat (w : Word) : (highByte w).toNat = w.toNat / 256 := by
  have := w.isLt
  simp only [highByte, BitVec.extractLsb'_toNat, Nat.shiftRight_eq_div_pow]
  omega

theorem lowByte_toNat (w : Word) : (lowByte w).toNat = w.toNat % 256 := by simp [lowByte]

theorem opcodeField_toNat (w : Word) : (opcodeField w).toNat = w.toNat / 16384 := by
  have := w.isLt
  simp only [opcodeField, BitVec.extractLsb'_toNat, Nat.shiftRight_eq_div_pow]
  omega

theorem controlField_toNat (w : Word) : (controlField w).toNat = w.toNat / 256 % 64 := by
  simp [controlField, Nat.shiftRight_eq_div_pow]

theorem parameterField_toNat (w : Word) : (parameterField w).toNat = w.toNat % 256 := by simp [parameterField]

theorem channelField_toNat (w : Word) : (channelField w).toNat = w.toNat / 256 % 64 := controlField_toNat w

theorem ignoredField_toNat (w : Word) : (ignoredField w).toNat = w.toNat % 256 := parameterField_toNat w

theorem lengthField_toNat (w : Word) : (lengthField w).toNat = w.toNat / 4 % 64 := by
  simp [lengthField, Nat.shiftRight_eq_div_pow]

theorem packetTypeField_toNat (w : Word) : (packetTypeField w).toNat = w.toNat % 4 := by simp [packetTypeField]

@[simp] theorem highByte_joinBytes (a b : Byte) : highByte (joinBytes a b) = a := by
  apply BitVec.eq_of_toNat_eq; rw [highByte_toNat, joinBytes_toNat]; omega

@[simp] theorem lowByte_joinBytes (a b : Byte) : lowByte (joinBytes a b) = b := by
  apply BitVec.eq_of_toNat_eq; rw [lowByte_toNat, joinBytes_toNat]; omega

/-- R33, R34: a word is its high byte and then its low byte. -/
@[simp] theorem joinBytes_bytes (w : Word) : joinBytes (highByte w) (lowByte w) = w := by
  apply BitVec.eq_of_toNat_eq; rw [joinBytes_toNat, highByte_toNat, lowByte_toNat]; omega

@[simp] theorem opcodeField_formatCP (o : BitVec 2) (c : BitVec 6) (p : Byte) : opcodeField (formatCP o c p) = o := by
  apply BitVec.eq_of_toNat_eq; rw [opcodeField_toNat, formatCP_toNat]; omega

@[simp] theorem controlField_formatCP (o : BitVec 2) (c : BitVec 6) (p : Byte) : controlField (formatCP o c p) = c := by
  apply BitVec.eq_of_toNat_eq; rw [controlField_toNat, formatCP_toNat]; omega

@[simp] theorem parameterField_formatCP (o : BitVec 2) (c : BitVec 6) (p : Byte) :
    parameterField (formatCP o c p) = p := by
  apply BitVec.eq_of_toNat_eq; rw [parameterField_toNat, formatCP_toNat]; omega

@[simp] theorem opcodeField_formatRX (ch : BitVec 6) (ign : Byte) : opcodeField (formatRX ch ign) = 0b01#2 :=
  opcodeField_formatCP 0b01#2 ch ign

@[simp] theorem channelField_formatRX (ch : BitVec 6) (ign : Byte) : channelField (formatRX ch ign) = ch :=
  controlField_formatCP 0b01#2 ch ign

@[simp] theorem ignoredField_formatRX (ch : BitVec 6) (ign : Byte) : ignoredField (formatRX ch ign) = ign :=
  parameterField_formatCP 0b01#2 ch ign

@[simp] theorem opcodeField_formatTX (ch len : BitVec 6) (pkt : BitVec 2) :
    opcodeField (formatTX ch len pkt) = 0b10#2 := by
  apply BitVec.eq_of_toNat_eq; rw [opcodeField_toNat, formatTX_toNat]; simp; omega

@[simp] theorem channelField_formatTX (ch len : BitVec 6) (pkt : BitVec 2) :
    channelField (formatTX ch len pkt) = ch := by
  apply BitVec.eq_of_toNat_eq; rw [channelField_toNat, formatTX_toNat]; omega

@[simp] theorem lengthField_formatTX (ch len : BitVec 6) (pkt : BitVec 2) :
    lengthField (formatTX ch len pkt) = len := by
  apply BitVec.eq_of_toNat_eq; rw [lengthField_toNat, formatTX_toNat]; omega

@[simp] theorem packetTypeField_formatTX (ch len : BitVec 6) (pkt : BitVec 2) :
    packetTypeField (formatTX ch len pkt) = pkt := by
  apply BitVec.eq_of_toNat_eq; rw [packetTypeField_toNat, formatTX_toNat]; omega

/-- R49: a word is the CP format of its own fields. -/
theorem formatCP_fields (w : Word) : formatCP (opcodeField w) (controlField w) (parameterField w) = w := by
  apply BitVec.eq_of_toNat_eq
  rw [formatCP_toNat, opcodeField_toNat, controlField_toNat, parameterField_toNat]
  omega

/-- R50: a word of opcode 01 is the RX format of its own fields. -/
theorem formatRX_fields {w : Word} (h : opcodeField w = 0b01#2) : formatRX (channelField w) (ignoredField w) = w := by
  have := formatCP_fields w
  rw [h] at this
  exact this

/-- R51: a word of opcode 10 is the TX format of its own fields. -/
theorem formatTX_fields {w : Word} (h : opcodeField w = 0b10#2) :
    formatTX (channelField w) (lengthField w) (packetTypeField w) = w := by
  have h' : w.toNat / 16384 = 2 := by rw [← opcodeField_toNat, h]; rfl
  apply BitVec.eq_of_toNat_eq
  rw [formatTX_toNat, channelField_toNat, lengthField_toNat, packetTypeField_toNat]
  omega

end Sys2Proof
end

