-- ==== Sys2Proof/Laws/State.lean ====
section
/-! SUPPORT. One lemma for each field of State under each shared operation of Machine/Ops.lean, so that no proof unfolds a record update. -/

namespace Sys2Proof.Machine

@[simp] theorem State.popRx_par (n : Nat) (s : State) : (s.popRx n).par = s.par := rfl
@[simp] theorem State.popRx_upperLen (n : Nat) (s : State) : (s.popRx n).upperLen = s.upperLen := rfl
@[simp] theorem State.popRx_fr (n : Nat) (s : State) : (s.popRx n).fr = s.fr := rfl
@[simp] theorem State.popRx_hi (n : Nat) (s : State) : (s.popRx n).hi = s.hi := rfl
@[simp] theorem State.popRx_ts (n : Nat) (s : State) : (s.popRx n).ts = s.ts := rfl
@[simp] theorem State.popRx_busy (n : Nat) (s : State) : (s.popRx n).busy = s.busy := rfl
@[simp] theorem State.popRx_srcReg (n : Nat) (s : State) : (s.popRx n).srcReg = s.srcReg := rfl
@[simp] theorem State.popRx_req (n : Nat) (s : State) : (s.popRx n).req = s.req := rfl
@[simp] theorem State.popRx_rx (n : Nat) (s : State) : (s.popRx n).rx = s.rx.drop n := rfl
@[simp] theorem State.popRx_tx (n : Nat) (s : State) : (s.popRx n).tx = s.tx := rfl
@[simp] theorem State.popRx_out (n : Nat) (s : State) : (s.popRx n).out = { s.out with rxPop := BitVec.ofNat 2 n } := rfl
@[simp] theorem State.popRx_pins (n : Nat) (s : State) : (s.popRx n).pins = s.pins := rfl
@[simp] theorem State.popRx_script (n : Nat) (s : State) : (s.popRx n).script = s.script := rfl
@[simp] theorem State.popRx_draws (n : Nat) (s : State) : (s.popRx n).draws = s.draws := rfl

@[simp] theorem State.txWrite_par (b1 b2 : Byte) (s : State) : (s.txWrite b1 b2).par = s.par := rfl
@[simp] theorem State.txWrite_upperLen (b1 b2 : Byte) (s : State) : (s.txWrite b1 b2).upperLen = s.upperLen := rfl
@[simp] theorem State.txWrite_fr (b1 b2 : Byte) (s : State) : (s.txWrite b1 b2).fr = s.fr := rfl
@[simp] theorem State.txWrite_hi (b1 b2 : Byte) (s : State) : (s.txWrite b1 b2).hi = s.hi := rfl
@[simp] theorem State.txWrite_ts (b1 b2 : Byte) (s : State) : (s.txWrite b1 b2).ts = s.ts := rfl
@[simp] theorem State.txWrite_busy (b1 b2 : Byte) (s : State) : (s.txWrite b1 b2).busy = s.busy := rfl
@[simp] theorem State.txWrite_srcReg (b1 b2 : Byte) (s : State) : (s.txWrite b1 b2).srcReg = s.srcReg := rfl
@[simp] theorem State.txWrite_req (b1 b2 : Byte) (s : State) : (s.txWrite b1 b2).req = s.req := rfl
@[simp] theorem State.txWrite_rx (b1 b2 : Byte) (s : State) : (s.txWrite b1 b2).rx = s.rx := rfl
@[simp] theorem State.txWrite_tx (b1 b2 : Byte) (s : State) : (s.txWrite b1 b2).tx = s.tx ++ [b1, b2] := rfl
@[simp] theorem State.txWrite_out (b1 b2 : Byte) (s : State) :
    (s.txWrite b1 b2).out = { s.out with txValid := true, txHi := b1, txLo := b2 } := rfl
@[simp] theorem State.txWrite_pins (b1 b2 : Byte) (s : State) : (s.txWrite b1 b2).pins = s.pins := rfl
@[simp] theorem State.txWrite_script (b1 b2 : Byte) (s : State) : (s.txWrite b1 b2).script = s.script := rfl
@[simp] theorem State.txWrite_draws (b1 b2 : Byte) (s : State) : (s.txWrite b1 b2).draws = s.draws := rfl

@[simp] theorem State.auxRespond_par (resp : Word) (s : State) : (s.auxRespond resp).par = s.par := rfl
@[simp] theorem State.auxRespond_upperLen (resp : Word) (s : State) : (s.auxRespond resp).upperLen = s.upperLen := rfl
@[simp] theorem State.auxRespond_fr (resp : Word) (s : State) : (s.auxRespond resp).fr = s.fr := rfl
@[simp] theorem State.auxRespond_hi (resp : Word) (s : State) : (s.auxRespond resp).hi = s.hi := rfl
@[simp] theorem State.auxRespond_ts (resp : Word) (s : State) : (s.auxRespond resp).ts = s.ts := rfl
@[simp] theorem State.auxRespond_busy (resp : Word) (s : State) : (s.auxRespond resp).busy = s.busy := rfl
@[simp] theorem State.auxRespond_srcReg (resp : Word) (s : State) : (s.auxRespond resp).srcReg = s.srcReg := rfl
@[simp] theorem State.auxRespond_req (resp : Word) (s : State) : (s.auxRespond resp).req = s.req := rfl
@[simp] theorem State.auxRespond_rx (resp : Word) (s : State) : (s.auxRespond resp).rx = s.rx := rfl
@[simp] theorem State.auxRespond_tx (resp : Word) (s : State) : (s.auxRespond resp).tx = s.tx := rfl
@[simp] theorem State.auxRespond_out (resp : Word) (s : State) :
    (s.auxRespond resp).out = { s.out with auxRespValid := true, auxResp := resp } := rfl
@[simp] theorem State.auxRespond_pins (resp : Word) (s : State) : (s.auxRespond resp).pins = s.pins := rfl
@[simp] theorem State.auxRespond_script (resp : Word) (s : State) : (s.auxRespond resp).script = s.script := rfl
@[simp] theorem State.auxRespond_draws (resp : Word) (s : State) : (s.auxRespond resp).draws = s.draws := rfl

@[simp] theorem State.respond_par (src : Source) (resp : Word) (s : State) :
    (s.respond src resp).par = s.par := by cases src <;> rfl
@[simp] theorem State.respond_upperLen (src : Source) (resp : Word) (s : State) :
    (s.respond src resp).upperLen = s.upperLen := by cases src <;> rfl
@[simp] theorem State.respond_fr (src : Source) (resp : Word) (s : State) :
    (s.respond src resp).fr = s.fr := by cases src <;> rfl
@[simp] theorem State.respond_hi (src : Source) (resp : Word) (s : State) :
    (s.respond src resp).hi = s.hi := by cases src <;> rfl
@[simp] theorem State.respond_ts (src : Source) (resp : Word) (s : State) :
    (s.respond src resp).ts = s.ts := by cases src <;> rfl
@[simp] theorem State.respond_busy (src : Source) (resp : Word) (s : State) :
    (s.respond src resp).busy = s.busy := by cases src <;> rfl
@[simp] theorem State.respond_srcReg (src : Source) (resp : Word) (s : State) :
    (s.respond src resp).srcReg = s.srcReg := by cases src <;> rfl
@[simp] theorem State.respond_req (src : Source) (resp : Word) (s : State) :
    (s.respond src resp).req = s.req := by cases src <;> rfl
@[simp] theorem State.respond_rx (src : Source) (resp : Word) (s : State) :
    (s.respond src resp).rx = s.rx := by cases src <;> rfl
@[simp] theorem State.respond_pins (src : Source) (resp : Word) (s : State) :
    (s.respond src resp).pins = s.pins := by cases src <;> rfl
@[simp] theorem State.respond_script (src : Source) (resp : Word) (s : State) :
    (s.respond src resp).script = s.script := by cases src <;> rfl
@[simp] theorem State.respond_draws (src : Source) (resp : Word) (s : State) :
    (s.respond src resp).draws = s.draws := by cases src <;> rfl

@[simp] theorem State.diag_par (code : DiagCode) (s : State) : (s.diag code).par = s.par := by cases code <;> rfl
@[simp] theorem State.diag_upperLen (code : DiagCode) (s : State) :
    (s.diag code).upperLen = s.upperLen := by cases code <;> rfl
@[simp] theorem State.diag_fr (code : DiagCode) (s : State) : (s.diag code).fr = s.fr := by cases code <;> rfl
@[simp] theorem State.diag_hi (code : DiagCode) (s : State) : (s.diag code).hi = s.hi := by cases code <;> rfl
@[simp] theorem State.diag_ts (code : DiagCode) (s : State) : (s.diag code).ts = s.ts := by cases code <;> rfl
@[simp] theorem State.diag_busy (code : DiagCode) (s : State) : (s.diag code).busy = s.busy := by cases code <;> rfl
@[simp] theorem State.diag_srcReg (code : DiagCode) (s : State) : (s.diag code).srcReg = s.srcReg := by cases code <;> rfl
@[simp] theorem State.diag_req (code : DiagCode) (s : State) : (s.diag code).req = s.req := by cases code <;> rfl
@[simp] theorem State.diag_rx (code : DiagCode) (s : State) : (s.diag code).rx = s.rx := by cases code <;> rfl
@[simp] theorem State.diag_tx (code : DiagCode) (s : State) : (s.diag code).tx = s.tx := by cases code <;> rfl
@[simp] theorem State.diag_pins (code : DiagCode) (s : State) : (s.diag code).pins = s.pins := by cases code <;> rfl
@[simp] theorem State.diag_script (code : DiagCode) (s : State) : (s.diag code).script = s.script := by cases code <;> rfl
@[simp] theorem State.diag_draws (code : DiagCode) (s : State) : (s.diag code).draws = s.draws := by cases code <;> rfl

@[simp] theorem State.setUpper_par (ul : Byte) (s : State) : (s.setUpper ul).par = s.par := rfl
@[simp] theorem State.setUpper_upperLen (ul : Byte) (s : State) : (s.setUpper ul).upperLen = ul := rfl
@[simp] theorem State.setUpper_fr (ul : Byte) (s : State) : (s.setUpper ul).fr = s.fr := rfl
@[simp] theorem State.setUpper_hi (ul : Byte) (s : State) : (s.setUpper ul).hi = s.hi := rfl
@[simp] theorem State.setUpper_ts (ul : Byte) (s : State) : (s.setUpper ul).ts = s.ts := rfl
@[simp] theorem State.setUpper_busy (ul : Byte) (s : State) : (s.setUpper ul).busy = s.busy := rfl
@[simp] theorem State.setUpper_srcReg (ul : Byte) (s : State) : (s.setUpper ul).srcReg = s.srcReg := rfl
@[simp] theorem State.setUpper_req (ul : Byte) (s : State) : (s.setUpper ul).req = s.req := rfl
@[simp] theorem State.setUpper_rx (ul : Byte) (s : State) : (s.setUpper ul).rx = s.rx := rfl
@[simp] theorem State.setUpper_tx (ul : Byte) (s : State) : (s.setUpper ul).tx = s.tx := rfl
@[simp] theorem State.setUpper_out (ul : Byte) (s : State) : (s.setUpper ul).out = s.out := rfl
@[simp] theorem State.setUpper_pins (ul : Byte) (s : State) : (s.setUpper ul).pins = s.pins := rfl
@[simp] theorem State.setUpper_script (ul : Byte) (s : State) : (s.setUpper ul).script = s.script := rfl
@[simp] theorem State.setUpper_draws (ul : Byte) (s : State) : (s.setUpper ul).draws = s.draws := rfl

@[simp] theorem State.issue_par (src : Source) (r : Request) (s : State) : (s.issue src r).par = s.par := rfl
@[simp] theorem State.issue_upperLen (src : Source) (r : Request) (s : State) : (s.issue src r).upperLen = s.upperLen := rfl
@[simp] theorem State.issue_fr (src : Source) (r : Request) (s : State) : (s.issue src r).fr = s.fr := rfl
@[simp] theorem State.issue_hi (src : Source) (r : Request) (s : State) : (s.issue src r).hi = s.hi := rfl
@[simp] theorem State.issue_ts (src : Source) (r : Request) (s : State) : (s.issue src r).ts = s.ts := rfl
@[simp] theorem State.issue_busy (src : Source) (r : Request) (s : State) : (s.issue src r).busy = true := rfl
@[simp] theorem State.issue_srcReg (src : Source) (r : Request) (s : State) : (s.issue src r).srcReg = src := rfl
@[simp] theorem State.issue_req (src : Source) (r : Request) (s : State) : (s.issue src r).req = r := rfl
@[simp] theorem State.issue_rx (src : Source) (r : Request) (s : State) : (s.issue src r).rx = s.rx := rfl
@[simp] theorem State.issue_tx (src : Source) (r : Request) (s : State) : (s.issue src r).tx = s.tx := rfl
@[simp] theorem State.issue_out (src : Source) (r : Request) (s : State) : (s.issue src r).out = s.out := rfl
@[simp] theorem State.issue_pins (src : Source) (r : Request) (s : State) : (s.issue src r).pins = s.pins := rfl
@[simp] theorem State.issue_script (src : Source) (r : Request) (s : State) : (s.issue src r).script = s.script := rfl
@[simp] theorem State.issue_draws (src : Source) (r : Request) (s : State) : (s.issue src r).draws = s.draws := rfl

@[simp] theorem State.release_par (s : State) : (s.release).par = s.par := rfl
@[simp] theorem State.release_upperLen (s : State) : (s.release).upperLen = s.upperLen := rfl
@[simp] theorem State.release_fr (s : State) : (s.release).fr = s.fr := rfl
@[simp] theorem State.release_hi (s : State) : (s.release).hi = s.hi := rfl
@[simp] theorem State.release_ts (s : State) : (s.release).ts = s.ts := rfl
@[simp] theorem State.release_busy (s : State) : (s.release).busy = false := rfl
@[simp] theorem State.release_srcReg (s : State) : (s.release).srcReg = s.srcReg := rfl
@[simp] theorem State.release_req (s : State) : (s.release).req = s.req := rfl
@[simp] theorem State.release_rx (s : State) : (s.release).rx = s.rx := rfl
@[simp] theorem State.release_tx (s : State) : (s.release).tx = s.tx := rfl
@[simp] theorem State.release_out (s : State) : (s.release).out = s.out := rfl
@[simp] theorem State.release_pins (s : State) : (s.release).pins = s.pins := rfl
@[simp] theorem State.release_script (s : State) : (s.release).script = s.script := rfl
@[simp] theorem State.release_draws (s : State) : (s.release).draws = s.draws := rfl

@[simp] theorem State.holdHigh_par (b : Byte) (s : State) : (s.holdHigh b).par = s.par := rfl
@[simp] theorem State.holdHigh_upperLen (b : Byte) (s : State) : (s.holdHigh b).upperLen = s.upperLen := rfl
@[simp] theorem State.holdHigh_fr (b : Byte) (s : State) : (s.holdHigh b).fr = .await := rfl
@[simp] theorem State.holdHigh_hi (b : Byte) (s : State) : (s.holdHigh b).hi = b := rfl
@[simp] theorem State.holdHigh_ts (b : Byte) (s : State) : (s.holdHigh b).ts = s.pins.now % 2 ^ s.par.timeW := rfl
@[simp] theorem State.holdHigh_busy (b : Byte) (s : State) : (s.holdHigh b).busy = s.busy := rfl
@[simp] theorem State.holdHigh_srcReg (b : Byte) (s : State) : (s.holdHigh b).srcReg = s.srcReg := rfl
@[simp] theorem State.holdHigh_req (b : Byte) (s : State) : (s.holdHigh b).req = s.req := rfl
@[simp] theorem State.holdHigh_rx (b : Byte) (s : State) : (s.holdHigh b).rx = s.rx := rfl
@[simp] theorem State.holdHigh_tx (b : Byte) (s : State) : (s.holdHigh b).tx = s.tx := rfl
@[simp] theorem State.holdHigh_out (b : Byte) (s : State) : (s.holdHigh b).out = s.out := rfl
@[simp] theorem State.holdHigh_pins (b : Byte) (s : State) : (s.holdHigh b).pins = s.pins := rfl
@[simp] theorem State.holdHigh_script (b : Byte) (s : State) : (s.holdHigh b).script = s.script := rfl
@[simp] theorem State.holdHigh_draws (b : Byte) (s : State) : (s.holdHigh b).draws = s.draws := rfl

@[simp] theorem State.toIdle_par (s : State) : (s.toIdle).par = s.par := rfl
@[simp] theorem State.toIdle_upperLen (s : State) : (s.toIdle).upperLen = s.upperLen := rfl
@[simp] theorem State.toIdle_fr (s : State) : (s.toIdle).fr = .idle := rfl
@[simp] theorem State.toIdle_hi (s : State) : (s.toIdle).hi = s.hi := rfl
@[simp] theorem State.toIdle_ts (s : State) : (s.toIdle).ts = s.ts := rfl
@[simp] theorem State.toIdle_busy (s : State) : (s.toIdle).busy = s.busy := rfl
@[simp] theorem State.toIdle_srcReg (s : State) : (s.toIdle).srcReg = s.srcReg := rfl
@[simp] theorem State.toIdle_req (s : State) : (s.toIdle).req = s.req := rfl
@[simp] theorem State.toIdle_rx (s : State) : (s.toIdle).rx = s.rx := rfl
@[simp] theorem State.toIdle_tx (s : State) : (s.toIdle).tx = s.tx := rfl
@[simp] theorem State.toIdle_out (s : State) : (s.toIdle).out = s.out := rfl
@[simp] theorem State.toIdle_pins (s : State) : (s.toIdle).pins = s.pins := rfl
@[simp] theorem State.toIdle_script (s : State) : (s.toIdle).script = s.script := rfl
@[simp] theorem State.toIdle_draws (s : State) : (s.toIdle).draws = s.draws := rfl

@[simp] theorem State.takeAux_par (s : State) : (s.takeAux).par = s.par := rfl
@[simp] theorem State.takeAux_upperLen (s : State) : (s.takeAux).upperLen = s.upperLen := rfl
@[simp] theorem State.takeAux_fr (s : State) : (s.takeAux).fr = s.fr := rfl
@[simp] theorem State.takeAux_hi (s : State) : (s.takeAux).hi = s.hi := rfl
@[simp] theorem State.takeAux_ts (s : State) : (s.takeAux).ts = s.ts := rfl
@[simp] theorem State.takeAux_busy (s : State) : (s.takeAux).busy = s.busy := rfl
@[simp] theorem State.takeAux_srcReg (s : State) : (s.takeAux).srcReg = s.srcReg := rfl
@[simp] theorem State.takeAux_req (s : State) : (s.takeAux).req = s.req := rfl
@[simp] theorem State.takeAux_rx (s : State) : (s.takeAux).rx = s.rx := rfl
@[simp] theorem State.takeAux_tx (s : State) : (s.takeAux).tx = s.tx := rfl
@[simp] theorem State.takeAux_out (s : State) : (s.takeAux).out = { s.out with auxTake := true } := rfl
@[simp] theorem State.takeAux_pins (s : State) : (s.takeAux).pins = s.pins := rfl
@[simp] theorem State.takeAux_script (s : State) : (s.takeAux).script = s.script := rfl
@[simp] theorem State.takeAux_draws (s : State) : (s.takeAux).draws = s.draws := rfl

@[simp] theorem State.clearOutputs_par (s : State) : (s.clearOutputs).par = s.par := rfl
@[simp] theorem State.clearOutputs_upperLen (s : State) : (s.clearOutputs).upperLen = s.upperLen := rfl
@[simp] theorem State.clearOutputs_fr (s : State) : (s.clearOutputs).fr = s.fr := rfl
@[simp] theorem State.clearOutputs_hi (s : State) : (s.clearOutputs).hi = s.hi := rfl
@[simp] theorem State.clearOutputs_ts (s : State) : (s.clearOutputs).ts = s.ts := rfl
@[simp] theorem State.clearOutputs_busy (s : State) : (s.clearOutputs).busy = s.busy := rfl
@[simp] theorem State.clearOutputs_srcReg (s : State) : (s.clearOutputs).srcReg = s.srcReg := rfl
@[simp] theorem State.clearOutputs_req (s : State) : (s.clearOutputs).req = s.req := rfl
@[simp] theorem State.clearOutputs_rx (s : State) : (s.clearOutputs).rx = s.rx := rfl
@[simp] theorem State.clearOutputs_tx (s : State) : (s.clearOutputs).tx = s.tx := rfl
@[simp] theorem State.clearOutputs_out (s : State) : (s.clearOutputs).out = Outputs.idle := rfl
@[simp] theorem State.clearOutputs_pins (s : State) : (s.clearOutputs).pins = s.pins := rfl
@[simp] theorem State.clearOutputs_script (s : State) : (s.clearOutputs).script = s.script := rfl
@[simp] theorem State.clearOutputs_draws (s : State) : (s.clearOutputs).draws = s.draws := rfl

@[simp] theorem State.hardReset_par (s : State) : (s.hardReset).par = s.par := rfl
@[simp] theorem State.hardReset_upperLen (s : State) : (s.hardReset).upperLen = 0x00#8 := rfl
@[simp] theorem State.hardReset_fr (s : State) : (s.hardReset).fr = .idle := rfl
@[simp] theorem State.hardReset_hi (s : State) : (s.hardReset).hi = 0x00#8 := rfl
@[simp] theorem State.hardReset_ts (s : State) : (s.hardReset).ts = 0 := rfl
@[simp] theorem State.hardReset_busy (s : State) : (s.hardReset).busy = false := rfl
@[simp] theorem State.hardReset_srcReg (s : State) : (s.hardReset).srcReg = .framer := rfl
@[simp] theorem State.hardReset_req (s : State) : (s.hardReset).req = Request.zero := rfl
@[simp] theorem State.hardReset_rx (s : State) : (s.hardReset).rx = s.rx := rfl
@[simp] theorem State.hardReset_tx (s : State) : (s.hardReset).tx = s.tx := rfl
@[simp] theorem State.hardReset_out (s : State) : (s.hardReset).out = Outputs.idle := rfl
@[simp] theorem State.hardReset_pins (s : State) : (s.hardReset).pins = s.pins := rfl
@[simp] theorem State.hardReset_script (s : State) : (s.hardReset).script = s.script := rfl
@[simp] theorem State.hardReset_draws (s : State) : (s.hardReset).draws = s.draws := rfl

@[simp] theorem State.present_par (inp : CycleInput) (s : State) : (s.present inp).par = s.par := rfl
@[simp] theorem State.present_upperLen (inp : CycleInput) (s : State) : (s.present inp).upperLen = s.upperLen := rfl
@[simp] theorem State.present_fr (inp : CycleInput) (s : State) : (s.present inp).fr = s.fr := rfl
@[simp] theorem State.present_hi (inp : CycleInput) (s : State) : (s.present inp).hi = s.hi := rfl
@[simp] theorem State.present_ts (inp : CycleInput) (s : State) : (s.present inp).ts = s.ts := rfl
@[simp] theorem State.present_busy (inp : CycleInput) (s : State) : (s.present inp).busy = s.busy := rfl
@[simp] theorem State.present_srcReg (inp : CycleInput) (s : State) : (s.present inp).srcReg = s.srcReg := rfl
@[simp] theorem State.present_req (inp : CycleInput) (s : State) : (s.present inp).req = s.req := rfl
@[simp] theorem State.present_rx (inp : CycleInput) (s : State) : (s.present inp).rx = s.rx ++ inp.arrivals := rfl
@[simp] theorem State.present_tx (inp : CycleInput) (s : State) : (s.present inp).tx = s.tx := rfl
@[simp] theorem State.present_out (inp : CycleInput) (s : State) : (s.present inp).out = s.out := rfl
@[simp] theorem State.present_pins (inp : CycleInput) (s : State) :
    (s.present inp).pins = ⟨inp.rst, (s.pins.now + inp.advance) % 2 ^ s.par.timeW, inp.execAck, inp.answer, inp.auxValid, inp.auxWord⟩ := rfl
@[simp] theorem State.present_script (inp : CycleInput) (s : State) : (s.present inp).script = s.script := rfl
@[simp] theorem State.present_draws (inp : CycleInput) (s : State) : (s.present inp).draws = s.draws := rfl

@[simp] theorem State.perform_par (p : Plan) (s : State) :
    (s.perform p).par = s.par := by unfold State.perform; split <;> simp
@[simp] theorem State.perform_upperLen (p : Plan) (s : State) :
    (s.perform p).upperLen = p.upperNext := by unfold State.perform; split <;> simp
@[simp] theorem State.perform_fr (p : Plan) (s : State) : (s.perform p).fr = s.fr := by unfold State.perform; split <;> simp
@[simp] theorem State.perform_hi (p : Plan) (s : State) : (s.perform p).hi = s.hi := by unfold State.perform; split <;> simp
@[simp] theorem State.perform_ts (p : Plan) (s : State) : (s.perform p).ts = s.ts := by unfold State.perform; split <;> simp
@[simp] theorem State.perform_rx (p : Plan) (s : State) : (s.perform p).rx = s.rx := by unfold State.perform; split <;> simp
@[simp] theorem State.perform_pins (p : Plan) (s : State) :
    (s.perform p).pins = s.pins := by unfold State.perform; split <;> simp
@[simp] theorem State.perform_script (p : Plan) (s : State) :
    (s.perform p).script = s.script := by unfold State.perform; split <;> simp
@[simp] theorem State.perform_draws (p : Plan) (s : State) :
    (s.perform p).draws = s.draws := by unfold State.perform; split <;> simp

@[simp] theorem State.complete_par (s : State) : (s.complete).par = s.par := by simp [State.complete]
@[simp] theorem State.complete_upperLen (s : State) : (s.complete).upperLen = s.upperLen := by simp [State.complete]
@[simp] theorem State.complete_fr (s : State) : (s.complete).fr = s.fr := by simp [State.complete]
@[simp] theorem State.complete_hi (s : State) : (s.complete).hi = s.hi := by simp [State.complete]
@[simp] theorem State.complete_ts (s : State) : (s.complete).ts = s.ts := by simp [State.complete]
@[simp] theorem State.complete_busy (s : State) : (s.complete).busy = false := by simp [State.complete]
@[simp] theorem State.complete_srcReg (s : State) : (s.complete).srcReg = s.srcReg := by simp [State.complete]
@[simp] theorem State.complete_req (s : State) : (s.complete).req = s.req := by simp [State.complete]
@[simp] theorem State.complete_rx (s : State) : (s.complete).rx = s.rx := by simp [State.complete]
@[simp] theorem State.complete_pins (s : State) : (s.complete).pins = s.pins := by simp [State.complete]
@[simp] theorem State.complete_script (s : State) : (s.complete).script = s.script := by simp [State.complete]
@[simp] theorem State.complete_draws (s : State) : (s.complete).draws = s.draws := by simp [State.complete]

@[simp] theorem State.between_par (s : State) : (s.between).par = s.par := by unfold State.between; split <;> rfl
@[simp] theorem State.between_upperLen (s : State) :
    (s.between).upperLen = s.upperLen := by unfold State.between; split <;> rfl
@[simp] theorem State.between_fr (s : State) : (s.between).fr = s.fr := by unfold State.between; split <;> rfl
@[simp] theorem State.between_hi (s : State) : (s.between).hi = s.hi := by unfold State.between; split <;> rfl
@[simp] theorem State.between_ts (s : State) : (s.between).ts = s.ts := by unfold State.between; split <;> rfl
@[simp] theorem State.between_busy (s : State) : (s.between).busy = s.busy := by unfold State.between; split <;> rfl
@[simp] theorem State.between_srcReg (s : State) : (s.between).srcReg = s.srcReg := by unfold State.between; split <;> rfl
@[simp] theorem State.between_req (s : State) : (s.between).req = s.req := by unfold State.between; split <;> rfl
@[simp] theorem State.between_tx (s : State) : (s.between).tx = s.tx := by unfold State.between; split <;> rfl
@[simp] theorem State.between_out (s : State) : (s.between).out = s.out := by unfold State.between; split <;> rfl

/-! A diagnostic pulse touches the diagnostic port alone (R24). -/

@[simp] theorem State.diag_out_rxPop (code : DiagCode) (s : State) :
    (s.diag code).out.rxPop = s.out.rxPop := by cases code <;> rfl
@[simp] theorem State.diag_out_txValid (code : DiagCode) (s : State) :
    (s.diag code).out.txValid = s.out.txValid := by cases code <;> rfl
@[simp] theorem State.diag_out_txHi (code : DiagCode) (s : State) :
    (s.diag code).out.txHi = s.out.txHi := by cases code <;> rfl
@[simp] theorem State.diag_out_txLo (code : DiagCode) (s : State) :
    (s.diag code).out.txLo = s.out.txLo := by cases code <;> rfl
@[simp] theorem State.diag_out_auxTake (code : DiagCode) (s : State) :
    (s.diag code).out.auxTake = s.out.auxTake := by cases code <;> rfl
@[simp] theorem State.diag_out_auxRespValid (code : DiagCode) (s : State) :
    (s.diag code).out.auxRespValid = s.out.auxRespValid := by cases code <;> rfl
@[simp] theorem State.diag_out_auxResp (code : DiagCode) (s : State) :
    (s.diag code).out.auxResp = s.out.auxResp := by cases code <;> rfl

@[simp] theorem State.diagPort_valid (s : State) : s.diagPort.valid = s.out.diagValid := rfl
@[simp] theorem State.diagPort_code (s : State) : s.diagPort.code = s.out.diagCode.code := rfl

end Sys2Proof.Machine
end

