-- ==== Sys2Proof/Laws/Ops.lean ====
section
/-! SUPPORT. One lemma for each shared operation that says all it can do, and the case lemmas of a poll, a cycle and a step. -/

namespace Sys2Proof.Machine

theorem State.source_eq (s : State) :
    s.source = if s.par.auxPresent = true ∧ s.pins.auxValid = true then .aux else .framer := by
  simp [State.source, State.auxOffered]

/-- R68: a framer command's response goes to the wire only. -/
theorem State.respond_framer (resp : Word) (s : State) :
    s.respond .framer resp = s.txWrite (highByte resp) (lowByte resp) := rfl

/-- R68: an auxiliary command's response goes to `aux_resp` only. -/
theorem State.respond_aux (resp : Word) (s : State) : s.respond .aux resp = s.auxRespond resp := rfl

theorem State.diag_none (s : State) : s.diag .none = s := rfl

theorem State.diag_pulse {code : DiagCode} (h : code ≠ .none) (s : State) :
    s.diag code = { s with out := { s.out with diagValid := true, diagCode := code } } := by
  simp [State.diag, h]

/-- R69: an immediate plan answers at once. -/
theorem State.perform_immediate (ul : Byte) (resp : Word) (code : DiagCode) (s : State) :
    s.perform ⟨ul, .immediate resp code⟩ = ((s.setUpper ul).respond s.source resp).diag code := rfl

/-- R69, R70: a calling plan latches the request. -/
theorem State.perform_call (ul : Byte) (r : Request) (s : State) :
    s.perform ⟨ul, .call r⟩ = { s with upperLen := ul, busy := true, srcReg := s.source, req := r } := rfl

/-- A calling plan that keeps `upper_len` leaves what `afterCall` says. -/
theorem State.perform_call_keep (r : Request) (s : State) :
    s.perform ⟨s.upperLen, .call r⟩ = s.afterCall r := by
  rw [State.perform_call, State.source_eq]; rfl

/-- R74, R107: an error plan that keeps `upper_len` leaves what `afterError` says. -/
theorem State.perform_error {code : DiagCode} (h : code ≠ .none) (s : State) :
    s.perform ⟨s.upperLen, .immediate statusError code⟩ = s.afterError code := by
  rw [State.perform_immediate, State.source_eq, State.diag_pulse h, State.afterError]
  split <;> rfl

/-- The plan of each command (R69), arm by arm. -/
def planOf (i : Instr) (ul : Byte) : Plan :=
  match i with
  | .setupReset p => planSetupReset p ul
  | .setupUpper p => planSetupUpper p ul
  | .setupFeat p => planSetupFeat p ul
  | .setupMax p => planReadMax p ul
  | .setupMaxBadparam p => planReadMax p ul
  | .setupRsvd c p => planSetupRsvd c p ul
  | .rxtest ch ign => planRxtest ch ign ul
  | .txtest ch len pkt => planTxtest ch len pkt ul
  | .testend p => planTestEnd 0x00#6 p ul
  | .testendBadparam p => planTestEnd 0x00#6 p ul
  | .testendBadctrl c p => planTestEnd c p ul

/-- R69: serving a command is performing its plan. -/
theorem exec_eq_perform (i : Instr) (s : State) : exec i s = .next (s.perform (planOf i s.upperLen)) := by
  cases i <;> rfl

/-- R13: only SETUP.RESET and SETUP.UPPER plan a write of `upper_len`. -/
theorem planOf_upperNext (i : Instr) (ul : Byte) :
    (planOf i ul).upperNext = match (motive := Instr → Byte) i with
      | .setupReset _ => 0x00#8
      | .setupUpper p => upperValue p
      | _ => ul := by
  cases i <;>
    simp only [planOf, planSetupReset, planSetupUpper, planSetupFeat, planReadMax, planSetupRsvd, planRxtest, planTxtest,
      planTestEnd]
  all_goals (repeat' split) <;> rfl

/-- R69, R107: a plan is a request whose unused fields are 0, or a response of one of the three kinds with no code, a
BAD_CONTROL or a BAD_PARAM. -/
theorem planOf_action (i : Instr) (ul : Byte) :
    (∃ r, (planOf i ul).action = .call r ∧ r.Ok) ∨
    (∃ resp code, (planOf i ul).action = .immediate resp code ∧ isResponse resp ∧
      (code = .none ∨ code = .badControl ∨ code = .badParam)) := by
  have e : isResponse statusError := by decide
  have sc : isResponse (statusSuccess 0) := by decide
  cases i <;>
    simp only [planOf, planSetupReset, planSetupUpper, planSetupFeat, planReadMax, planSetupRsvd, planRxtest, planTxtest,
      planTestEnd]
  all_goals (repeat' split)
  all_goals first
    | exact .inl ⟨_, rfl, by simp [Request.Ok]⟩
    | exact .inr ⟨_, _, rfl, e, by simp⟩
    | exact .inr ⟨_, _, rfl, sc, by simp⟩

/-- R69: the two things performing a plan can do. -/
theorem State.perform_cases (p : Plan) (s : State) :
    (∃ r, p.action = .call r ∧
      s.perform p = { s with upperLen := p.upperNext, busy := true, srcReg := s.source, req := r }) ∨
    (∃ resp code, p.action = .immediate resp code ∧
      s.perform p = ((s.setUpper p.upperNext).respond s.source resp).diag code) := by
  rcases p with ⟨u, a⟩
  cases a with
  | call r => exact .inl ⟨r, rfl, rfl⟩
  | immediate resp code => exact .inr ⟨resp, code, rfl, rfl⟩

/-- R91: the six cases of a poll. -/
theorem State.poll_cases (s : State) :
    (s.fr = .idle ∧ s.rxCount = 2 ∧ s.poll = .serve (joinBytes (s.rxPeek 0) (s.rxPeek 1)) (s.popRx 2)) ∨
    (s.fr = .idle ∧ s.rxCount = 1 ∧ s.poll = .done ((s.holdHigh (s.rxPeek 0)).popRx 1)) ∨
    (s.fr = .idle ∧ s.rxCount = 0 ∧ s.poll = .done s) ∨
    (s.fr = .await ∧ 1 ≤ s.rxCount ∧ s.poll = .serve (joinBytes s.hi (s.rxPeek 0)) (s.popRx 1).toIdle) ∨
    (s.fr = .await ∧ s.rxCount = 0 ∧ Config.timeoutUnits < s.elapsed ∧ s.poll = .done (s.toIdle.diag .desync)) ∨
    (s.fr = .await ∧ s.rxCount = 0 ∧ s.elapsed ≤ Config.timeoutUnits ∧ s.poll = .done s) := by
  have hc : s.rxCount ≤ 2 := Nat.min_le_right _ _
  unfold State.poll
  cases s.fr with
  | idle =>
    by_cases h2 : s.rxCount = 2
    · simp [h2]
    · by_cases h1 : s.rxCount = 1
      · simp [h1]
      · simp [h2, h1]; omega
  | await =>
    by_cases h1 : 1 ≤ s.rxCount
    · simp [h1]
    · by_cases ht : Config.timeoutUnits < s.elapsed
      · simp [h1, ht]; omega
      · simp [h1, ht]; omega

/-- R25, R113: what a cycle does, by the first condition that holds. -/
theorem State.fetch_cases (s : State) :
    (s.pins.rst = true ∧ s.fetch = .done s.hardReset) ∨
    (s.pins.rst = false ∧ s.busy = true ∧ s.pins.execAck = true ∧ s.fetch = .done s.clearOutputs.complete) ∨
    (s.pins.rst = false ∧ s.busy = true ∧ s.pins.execAck = false ∧ s.fetch = .done s.clearOutputs) ∨
    (s.pins.rst = false ∧ s.busy = false ∧ s.auxOffered = true ∧
      s.fetch = .serve s.pins.auxWord s.clearOutputs.takeAux) ∨
    (s.pins.rst = false ∧ s.busy = false ∧ s.auxOffered = false ∧ s.fetch = s.clearOutputs.poll) := by
  unfold State.fetch
  cases s.pins.rst <;> cases s.busy <;> cases s.pins.execAck <;> cases s.auxOffered <;> simp

/-- A step answers with the state that the cycle leaves, after the environment's moves. -/
theorem step_done {s t : State} (h : s.fetch = .done t) : step s = .next t.between := by
  simp [step, h]

/-- R69: a step that forms or takes a word serves it. -/
theorem step_serve {s t : State} {w : Word} (h : s.fetch = .serve w t) :
    step s = .next (t.perform (planOf (decode w) t.upperLen)).between := by
  simp [step, h, exec_eq_perform, afterCycle]

@[simp] theorem run_zero (s : State) : run 0 s = .next s := rfl

/-- A run is its first step and the rest of the run. -/
theorem run_succ {s t : State} (n : Nat) (h : step s = .next t) : run (n + 1) s = run n t := by
  simp [run, h]

/-- The command a cycle serves is the one of the word it forms or takes. -/
theorem State.served_of_serve {s t : State} {w : Word} (h : s.fetch = .serve w t) : s.served = some (decode w) := by
  simp [State.served, h]

theorem State.served_of_done {s t : State} (h : s.fetch = .done t) : s.served = none := by
  simp [State.served, h]

end Sys2Proof.Machine
end

