-- ==== Sys2Proof/Laws/PerInstr.lean ====
section
/-! SUPPORT. Statements made per instruction: the opcode field of every encoding is its family's (30_encoding.md R48). -/

namespace Sys2Proof.Laws.EncodesIntoItsFamily

/-- R48: bits [15:14] of the instruction's word are its family's opcode. -/
def Statement (i : Instr) : Prop := opcodeField (encode i) = i.family.opcode

theorem setupReset (p : Byte) : Statement (.setupReset p) := opcodeField_formatCP _ _ _
theorem setupUpper (p : Byte) : Statement (.setupUpper p) := opcodeField_formatCP _ _ _
theorem setupFeat (p : Byte) : Statement (.setupFeat p) := opcodeField_formatCP _ _ _
theorem setupMax (p : Byte) : Statement (.setupMax p) := opcodeField_formatCP _ _ _
theorem setupMaxBadparam (p : Byte) : Statement (.setupMaxBadparam p) := opcodeField_formatCP _ _ _
theorem setupRsvd (c : BitVec 6) (p : Byte) : Statement (.setupRsvd c p) := opcodeField_formatCP _ _ _
theorem rxtest (ch : BitVec 6) (ign : Byte) : Statement (.rxtest ch ign) := opcodeField_formatRX _ _
theorem txtest (ch : BitVec 6) (len : BitVec 6) (pkt : BitVec 2) : Statement (.txtest ch len pkt) := opcodeField_formatTX _ _ _
theorem testend (p : Byte) : Statement (.testend p) := opcodeField_formatCP _ _ _
theorem testendBadparam (p : Byte) : Statement (.testendBadparam p) := opcodeField_formatCP _ _ _
theorem testendBadctrl (c : BitVec 6) (p : Byte) : Statement (.testendBadctrl c p) := opcodeField_formatCP _ _ _

end Sys2Proof.Laws.EncodesIntoItsFamily
end

