-- ==== Sys2Proof/Tests/Slice0.lean ====
section
/-! SUPPORT. Small tests: the words and vectors of 95_test_vectors.md and of the encoding formats, each on one step of a small state, and for every statement of Certificates/Slice0/Obligations.lean that has hypotheses, states and operands that meet them. -/

namespace Sys2Proof.Tests

open Sys2Proof.Machine

/-! ### Small states -/

/-- An environment input that lets `k` time units pass and does nothing else. -/
def quiet (k : Nat) : CycleInput :=
  { arrivals := [], advance := k, rst := false, execAck := false,
    answer := { ok := false, value := 0, count := 0, features := 0 }, auxValid := false, auxWord := 0 }

/-- The state after reset, with the given bytes found in the FIFO and eight quiet inputs to come. -/
def idleWith (rx : List Byte) : State :=
  { State.reset with rx := rx, script := List.replicate 8 (quiet 1) }

/-- The framer holds `hi` since time `ts`, and it is time `now`. -/
def awaiting (hi : Byte) (ts now : Nat) (rx : List Byte) : State :=
  { idleWith rx with fr := .await, hi := hi, ts := ts, pins := { Pins.idle with now := now } }

/-- An auxiliary word is offered. -/
def offering (w : Word) (s : State) : State := { s with pins := { s.pins with auxValid := true, auxWord := w } }

/-- A request of `src` is outstanding, and the executor answers it in this cycle. -/
def answering (src : Source) (r : Request) (ans : Answer) : State :=
  { idleWith [] with busy := true, srcReg := src, req := r, pins := { Pins.idle with execAck := true, answer := ans } }

/-- The state an outcome answers with, if any. -/
def after : Host.Outcome State Fault Refusal → Option State
  | .next t => some t
  | .fault _ => none
  | .refused _ => none

/-- What serving `w` shows: the executor port, `upper_len`, the TX bytes and the diagnostic code. -/
def serving (w : Word) (ul : Byte) : Option (ExecPort × Byte × List Byte × DiagCode) :=
  (after (exec (decode w) { idleWith [] with upperLen := ul })).map
    (fun t => (t.execPort, t.upperLen, t.tx, t.out.diagCode))

/-- What the cycle that answers request `op` of the framer shows: the TX bytes and the diagnostic code. -/
def answered (op : ExecOp) (ans : Answer) : Option (List Byte × DiagCode) :=
  (after (step (answering .framer { Request.zero with op := op } ans))).map (fun t => (t.tx, t.out.diagCode))

/-- What a step shows of the framer. -/
structure Framed where
  fr : FramerState
  hi : Byte
  ts : Nat
  rx : List Byte
  tx : List Byte
  code : DiagCode
  deriving DecidableEq, Repr

/-- The framer after a step. -/
def framed (s : State) : Option Framed :=
  (after (step s)).map (fun t => ⟨t.fr, t.hi, t.ts, t.rx, t.tx, t.out.diagCode⟩)

/-! ### Well-formedness: one ill-formed term for each check -/

theorem test_wf_setupMax_refuses : (Instr.setupMax 0x11#8).wf = false ∧ (Instr.setupMax 0x10#8).wf = true := by decide
theorem test_wf_setupMaxBadparam_refuses :
    (Instr.setupMaxBadparam 0x10#8).wf = false ∧ (Instr.setupMaxBadparam 0x11#8).wf = true := by decide
theorem test_wf_setupRsvd_refuses :
    (Instr.setupRsvd 0x00#6 0#8).wf = false ∧ (Instr.setupRsvd 0x01#6 0#8).wf = false ∧
    (Instr.setupRsvd 0x04#6 0#8).wf = false ∧ (Instr.setupRsvd 0x05#6 0#8).wf = false ∧
    (Instr.setupRsvd 0x02#6 0#8).wf = true := by decide
theorem test_wf_testend_refuses : (Instr.testend 0x0B#8).wf = false ∧ (Instr.testend 0x0A#8).wf = true := by decide
theorem test_wf_testendBadparam_refuses :
    (Instr.testendBadparam 0x0A#8).wf = false ∧ (Instr.testendBadparam 0x0B#8).wf = true := by decide
theorem test_wf_testendBadctrl_refuses :
    (Instr.testendBadctrl 0x00#6 0#8).wf = false ∧ (Instr.testendBadctrl 0x01#6 0#8).wf = true := by decide

/-! ### Decoding: words written out bit by bit from the formats CP (R49), RX (R50) and TX (R51) -/

-- opcode 00, control 000000, parameter 10100101
theorem test_decode_setupReset : decode 0b00_000000_10100101#16 = .setupReset 0b10100101#8 := by decide
-- opcode 00, control 000001, parameter 00001100
theorem test_decode_setupUpper : decode 0b00_000001_00001100#16 = .setupUpper 0b00001100#8 := by decide
-- opcode 00, control 000100, parameter 00000011
theorem test_decode_setupFeat : decode 0b00_000100_00000011#16 = .setupFeat 0b00000011#8 := by decide
-- opcode 00, control 000101, parameter 00010000
theorem test_decode_setupMax : decode 0b00_000101_00010000#16 = .setupMax 0b00010000#8 := by decide
-- opcode 00, control 000101, parameter 00010001
theorem test_decode_setupMaxBadparam : decode 0b00_000101_00010001#16 = .setupMaxBadparam 0b00010001#8 := by decide
-- opcode 00, control 100001, parameter 01010101
theorem test_decode_setupRsvd : decode 0b00_100001_01010101#16 = .setupRsvd 0b100001#6 0b01010101#8 := by decide
-- opcode 01, channel 000101, ignored 10000001
theorem test_decode_rxtest : decode 0b01_000101_10000001#16 = .rxtest 0b000101#6 0b10000001#8 := by decide
-- opcode 10, channel 000011, length 100101, packet type 01
theorem test_decode_txtest : decode 0b10_000011_100101_01#16 = .txtest 0b000011#6 0b100101#6 0b01#2 := by decide
-- opcode 11, control 000000, parameter 00001010
theorem test_decode_testend : decode 0b11_000000_00001010#16 = .testend 0b00001010#8 := by decide
-- opcode 11, control 000000, parameter 00001011
theorem test_decode_testendBadparam : decode 0b11_000000_00001011#16 = .testendBadparam 0b00001011#8 := by decide
-- opcode 11, control 100000, parameter 00000001
theorem test_decode_testendBadctrl : decode 0b11_100000_00000001#16 = .testendBadctrl 0b100000#6 0b00000001#8 := by decide

/-- R33, R47: the first byte is the high byte, the rest of the bytes stays, and one byte alone is no command. -/
theorem test_decodeBytes :
    (decodeBytes [0x45#8, 0x00#8, 0xC0#8]).toOption = some (.rxtest 5#6 0x00#8, [0xC0#8]) ∧
    (decodeBytes [0x45#8]).toOption = none := by decide

/-- The host's two entry points, on `TXTEST 3, 0x25, 1`: the decoder reads it, and the first step after reset issues it. -/
theorem test_tableWord_runs_from_reset :
    decodeTableWord 16 0x8395 = some (.txtest 3#6 0x25#6 1#2) ∧
    (State.reset.withFetchWord 16 0x8395).served = some (.txtest 3#6 0x25#6 1#2) ∧
    decodeTableWord 17 0x8395 = none := by decide

/-! ### One word at a time (95_test_vectors.md 2.1) -/

theorem test_setupReset_request :
    serving 0x00FF#16 0xC0#8 = some (⟨true, 0, 0, 0, 0, 0⟩, 0x00#8, [], .none) := by decide
theorem test_setupReset_answers :
    answered .reset ⟨true, 0, 0, 0⟩ = some ([0x00#8, 0x01#8], .none) ∧
    answered .reset ⟨false, 0, 0, 0⟩ = some ([0x00#8, 0x00#8], .execFail) := by decide
theorem test_setupUpper_writes :
    serving 0x010C#16 0x00#8 = some (⟨false, 0, 0, 0, 0, 0⟩, 0xC0#8, [0x00#8, 0x01#8], .none) ∧
    serving 0x0108#16 0x00#8 = some (⟨false, 0, 0, 0, 0, 0⟩, 0x80#8, [0x00#8, 0x01#8], .none) := by decide
theorem test_setupUpper_clears :
    serving 0x01F3#16 0xC0#8 = some (⟨false, 0, 0, 0, 0, 0⟩, 0x00#8, [0x00#8, 0x01#8], .none) := by decide
theorem test_setupFeat_request :
    serving 0x04FF#16 0x40#8 = some (⟨true, 1, 0, 0, 0, 0⟩, 0x40#8, [], .none) := by decide
theorem test_setupFeat_answers :
    answered .readFeatures ⟨true, 0, 0, 0x003#9⟩ = some ([0x00#8, 0x07#8], .none) ∧
    answered .readFeatures ⟨false, 0, 0, 0x1FF#9⟩ = some ([0x03#8, 0xFF#8], .none) := by decide
theorem test_setupMax_request :
    serving 0x0508#16 0x00#8 = some (⟨true, 2, 0, 0, 0, 2⟩, 0x00#8, [], .none) ∧
    serving 0x0510#16 0x00#8 = some (⟨true, 2, 0, 0, 0, 4⟩, 0x00#8, [], .none) := by decide
theorem test_setupMax_answers :
    answered .readMax ⟨true, 0x00FB#14, 0, 0⟩ = some ([0x01#8, 0xF7#8], .none) ∧
    answered .readMax ⟨true, 0x3FFF#14, 0, 0⟩ = some ([0x7F#8, 0xFF#8], .none) := by decide
theorem test_setupMaxBadparam :
    serving 0x0511#16 0x00#8 = some (⟨false, 0, 0, 0, 0, 0⟩, 0x00#8, [0x00#8, 0x00#8], .badParam) := by decide
theorem test_setupRsvd :
    serving 0x0355#16 0x40#8 = some (⟨false, 0, 0, 0, 0, 0⟩, 0x40#8, [0x00#8, 0x00#8], .badControl) ∧
    serving 0x3FFF#16 0x40#8 = some (⟨false, 0, 0, 0, 0, 0⟩, 0x40#8, [0x00#8, 0x00#8], .badControl) := by decide
theorem test_rxtest_request :
    serving 0x7F00#16 0xC0#8 = some (⟨true, 3, 63, 0, 0, 0⟩, 0xC0#8, [], .none) ∧
    serving 0x4014#16 0x00#8 = some (⟨true, 3, 0, 0, 0, 0⟩, 0x00#8, [], .none) := by decide
theorem test_rxtest_answers :
    answered .startRx ⟨true, 0, 0, 0⟩ = some ([0x00#8, 0x01#8], .none) ∧
    answered .startRx ⟨false, 0, 0, 0⟩ = some ([0x00#8, 0x00#8], .execFail) := by decide
theorem test_txtest_request :
    serving 0x8395#16 0xC0#8 = some (⟨true, 4, 3, 0xE5, 1, 0⟩, 0xC0#8, [], .none) ∧
    serving 0xBFFF#16 0x00#8 = some (⟨true, 4, 63, 0x3F, 3, 0⟩, 0x00#8, [], .none) := by decide
theorem test_txtest_answers :
    answered .startTx ⟨true, 0, 0, 0⟩ = some ([0x00#8, 0x01#8], .none) ∧
    answered .startTx ⟨false, 0, 0, 0⟩ = some ([0x00#8, 0x00#8], .execFail) := by decide
theorem test_testend_request :
    serving 0xC00A#16 0xC0#8 = some (⟨true, 5, 0, 0, 0, 0⟩, 0xC0#8, [], .none) := by decide
theorem test_testend_answers :
    answered .endTest ⟨true, 0, 0x0123#15, 0⟩ = some ([0x81#8, 0x23#8], .none) ∧
    answered .endTest ⟨true, 0, 0x7FFF#15, 0⟩ = some ([0xFF#8, 0xFF#8], .none) := by decide
theorem test_testendBadparam :
    serving 0xC00B#16 0x00#8 = some (⟨false, 0, 0, 0, 0, 0⟩, 0x00#8, [0x00#8, 0x00#8], .badParam) := by decide
-- control is checked first
theorem test_testendBadctrl :
    serving 0xC1FF#16 0x00#8 = some (⟨false, 0, 0, 0, 0, 0⟩, 0x00#8, [0x00#8, 0x00#8], .badControl) := by decide

/-! ### The cycle (95_test_vectors.md 1.6, 2.5, 2.6) -/

/-- 2.5: three bytes queued, two are popped. -/
theorem test_fastPath :
    (after (step (idleWith [0x00#8, 0x00#8, 0x40#8]))).map (fun t => (t.rx, t.out.rxPop, t.execPort.req)) =
      some ([0x40#8], 2#2, true) := by decide
/-- 1.6: one byte waits, with the time of its poll. -/
theorem test_idle_takes_high_byte :
    framed { idleWith [0x40#8] with pins := { Pins.idle with now := 7 } } =
      some ⟨.await, 0x40#8, 7, [], [], .none⟩ := by decide
/-- 2.5: a byte that is there at elapsed 6 still completes the word. -/
theorem test_await_at_six :
    (awaiting 0x40#8 0 6 [0x14#8]).served = some (.rxtest 0#6 0x14#8) := by decide
/-- 1.6: elapsed 5 waits, elapsed 6 drops. -/
theorem test_timeout :
    framed (awaiting 0x40#8 0 5 []) = some ⟨.await, 0x40#8, 0, [], [], .none⟩ ∧
    framed (awaiting 0x40#8 0 6 []) = some ⟨.idle, 0x40#8, 0, [], [], .desync⟩ := by decide
/-- 2.5: with TIME_W = 4 and `ts = 14`, `now = 3` is elapsed 5 and `now = 4` is elapsed 6. -/
theorem test_time_wraps :
    State.elapsed { awaiting 0x40#8 14 3 [] with par := ⟨4, true⟩ } = 5 ∧
    State.elapsed { awaiting 0x40#8 14 4 [] with par := ⟨4, true⟩ } = 6 := by decide
/-- 2.6: the auxiliary word goes first and the FIFO is not popped. -/
theorem test_aux_first :
    (after (step (offering 0x0104#16 (idleWith [0x00#8, 0x00#8])))).map
        (fun t => (t.upperLen, t.out.auxRespValid, t.out.auxResp, t.rx, t.tx)) =
      some (0x40#8, true, 0x0001#16, [0x00#8, 0x00#8], []) := by decide
/-- P6: an auxiliary command's answer is not on the wire. -/
theorem test_aux_completion :
    (after (step (answering .aux { Request.zero with op := .endTest } ⟨true, 0, 0, 0⟩))).map
        (fun t => (t.out.auxResp, t.tx, t.busy)) = some (0x8000#16, [], false) := by decide
/-- 2.6: while busy without an answer nothing happens. -/
theorem test_busy_waits :
    (after (step { offering 0x0104#16 (idleWith [0x40#8, 0x14#8]) with busy := true })).map
        (fun t => (t.rx, t.out, t.busy)) = some ([0x40#8, 0x14#8], Outputs.idle, true) := by decide
/-- 2.6: reset abandons the outstanding request without a response. -/
theorem test_reset_abandons :
    (after (step { answering .framer { Request.zero with op := .endTest } ⟨true, 0, 0, 0⟩ with
        upperLen := 0xC0, pins := { Pins.idle with rst := true, execAck := true } })).map
        (fun t => (t.busy, t.req, t.upperLen, t.tx, t.out)) = some (false, Request.zero, 0x00#8, [], Outputs.idle) := by decide

/-! ### Witnesses: hypotheses that are met -/

theorem witness_DecodeOfEncodedInstruction :
    (Instr.setupMax 0x10#8).wf = true ∧ (Instr.setupMaxBadparam 0x11#8).wf = true ∧ (Instr.setupRsvd 0x3F#6 0xFF#8).wf = true ∧
    (Instr.testend 0x0A#8).wf = true ∧ (Instr.testendBadparam 0xFF#8).wf = true ∧ (Instr.testendBadctrl 0x3F#6 0xFF#8).wf = true := by
  decide
theorem witness_AssemblerFormsSpellTheirCommands :
    assemble (.setupMax 0x10) = some 0x0510#16 ∧ assemble (.setupMax 0x11) = some 0x0511#16 ∧
    assemble (.setupMax 0x100) = none ∧ assemble (.testend (some 0x0A)) = some 0xC00A#16 ∧
    assemble (.testend (some 0x0B)) = some 0xC00B#16 ∧ assemble (.testend none) = some 0xC000#16 ∧
    assemble (.setup 0x3F 0xFF) = some 0x3FFF#16 ∧ assemble (.setup 0x40 0) = none ∧
    assemble (.rxtest 63 (some 0xFF)) = some 0x7FFF#16 ∧ assemble (.rxtest 64 none) = none ∧
    assemble (.txtest 3 0x25 1) = some 0x8395#16 ∧ assemble (.txtest 0 64 0) = none ∧
    assemble (.word 0xFFFF) = some 0xFFFF#16 ∧ assemble (.word 0x10000) = none := by decide
theorem witness_EffectiveLengthJoinsUpperBits : (0xC0#8 : Byte) &&& 0x3F#8 = 0x00#8 ∧ (0x00#8 : Byte) &&& 0x3F#8 = 0x00#8 := by decide
theorem witness_FeatureFlagsSitAtBitsOneToNine :
    (featureMask 0x001#9).getLsbD 1 = true ∧ (featureMask 0x100#9).getLsbD 9 = true ∧ (featureMask 0x1FF#9).getLsbD 10 = false := by decide
theorem witness_PacketReportCarriesTheCount : (⟨true, 0, 0x7FFF, 0⟩ : Answer).ok = true := by decide
theorem witness_ExecutorFailureAnswersZero :
    ExecOp.reset ≠ ExecOp.readFeatures ∧ ExecOp.endTest ≠ ExecOp.readFeatures ∧ (⟨false, 0, 0x7FFF, 0⟩ : Answer).ok = false := by decide

/-- Both ends of the two cases of a command's source. -/
theorem witness_SetupUpperWritesUpperLenAndAnswers :
    ¬ ((idleWith []).par.auxPresent = true ∧ (idleWith []).pins.auxValid = true) ∧
    ((offering 0#16 (idleWith [])).par.auxPresent = true ∧ (offering 0#16 (idleWith [])).pins.auxValid = true) := by decide
theorem witness_ReadMaxCallsItsClassOrAnswersBadParam : (0x10#8).toNat ≤ 0x10 ∧ 0x10 < (0x11#8).toNat := by decide
theorem witness_ReservedSetupControlAnswersZero :
    (0x02#6 ≠ 0x00#6 ∧ 0x02#6 ≠ 0x01#6 ∧ 0x02#6 ≠ 0x04#6 ∧ 0x02#6 ≠ 0x05#6) ∧
    (0x3F#6 ≠ 0x00#6 ∧ 0x3F#6 ≠ 0x01#6 ∧ 0x3F#6 ≠ 0x04#6 ∧ 0x3F#6 ≠ 0x05#6) := by decide
theorem witness_TestEndCallsEndTest : (0x0A#8).toNat ≤ 0x0A ∧ (0x00#8).toNat ≤ 0x0A := by decide
theorem witness_TestEndErrorsAnswerZero :
    0x01#6 ≠ 0x00#6 ∧ 0x3F#6 ≠ 0x00#6 ∧ 0x00#6 = 0x00#6 ∧ 0x0A < (0x0B#8).toNat ∧ (0x0A#8).toNat ≤ 0x0A := by decide
theorem witness_IgnoredBitsHaveNoEffect :
    (0x0C#8).extractLsb' 2 2 = (0xFF#8).extractLsb' 2 2 ∧
    ((0x0C#8).toNat ≤ 0x0F ∧ (0x0F#8).toNat ≤ 0x0F ∧ (0x0C#8).extractLsb' 2 2 = (0x0F#8).extractLsb' 2 2) ∧
    ((0x00#8).toNat ≤ 0x0A ∧ (0x0A#8).toNat ≤ 0x0A) := by decide
theorem witness_ExecutorPortShowsTheRequest :
    Request.zero.Ok ∧ (⟨.startTx, 63, 0xFF, 3, .txOctets⟩ : Request).Ok ∧ (⟨.readMax, 0, 0, 0, .cteLength⟩ : Request).Ok := by decide

/-- Three bytes found. -/
theorem witness_FastPathServesTwoBytes :
    (idleWith [1#8, 2#8, 3#8]).pins.rst = false ∧ (idleWith [1#8, 2#8, 3#8]).busy = false ∧
    ¬ ((idleWith [1#8, 2#8, 3#8]).par.auxPresent = true ∧ (idleWith [1#8, 2#8, 3#8]).pins.auxValid = true) ∧
    (idleWith [1#8, 2#8, 3#8]).fr = .idle ∧ (idleWith [1#8, 2#8, 3#8]).rx = 1#8 :: 2#8 :: [3#8] := by decide
theorem witness_IdlePollTakesTheHighByte :
    (idleWith [1#8]).pins.rst = false ∧ (idleWith [1#8]).busy = false ∧
    ¬ ((idleWith [1#8]).par.auxPresent = true ∧ (idleWith [1#8]).pins.auxValid = true) ∧
    (idleWith [1#8]).fr = .idle ∧ (idleWith [1#8]).rx = [1#8] ∧
    (idleWith [1#8]).pins.now < 2 ^ (idleWith [1#8]).par.timeW := by decide
theorem witness_IdlePollOfEmptyFifoYields :
    (idleWith []).pins.rst = false ∧ (idleWith []).busy = false ∧
    ¬ ((idleWith []).par.auxPresent = true ∧ (idleWith []).pins.auxValid = true) ∧
    (idleWith []).fr = .idle ∧ (idleWith []).rx = [] := by decide
/-- One byte found and two, at elapsed 0 and elapsed 6. -/
theorem witness_AwaitPollCompletesTheWord :
    ∀ s ∈ [awaiting 0x40#8 0 0 [0x14#8], awaiting 0x40#8 0 6 [0x14#8, 0x15#8]],
      s.pins.rst = false ∧ s.busy = false ∧ ¬ (s.par.auxPresent = true ∧ s.pins.auxValid = true) ∧ s.fr = .await ∧
      s.rx = 0x14#8 :: s.rx.drop 1 := by decide
theorem witness_TimeoutDropsTheHighByte :
    (awaiting 0x40#8 0 6 []).pins.rst = false ∧ (awaiting 0x40#8 0 6 []).busy = false ∧
    ¬ ((awaiting 0x40#8 0 6 []).par.auxPresent = true ∧ (awaiting 0x40#8 0 6 []).pins.auxValid = true) ∧
    (awaiting 0x40#8 0 6 []).fr = .await ∧ (awaiting 0x40#8 0 6 []).rx = [] ∧ 5 < (awaiting 0x40#8 0 6 []).elapsed := by decide
theorem witness_AwaitPollWithinTheTimeoutYields :
    (awaiting 0x40#8 0 5 []).pins.rst = false ∧ (awaiting 0x40#8 0 5 []).busy = false ∧
    ¬ ((awaiting 0x40#8 0 5 []).par.auxPresent = true ∧ (awaiting 0x40#8 0 5 []).pins.auxValid = true) ∧
    (awaiting 0x40#8 0 5 []).fr = .await ∧ (awaiting 0x40#8 0 5 []).rx = [] ∧ (awaiting 0x40#8 0 5 []).elapsed ≤ 5 := by decide
theorem witness_ElapsedIsTheModularDifference :
    (awaiting 0x40#8 14 3 []).TimeOk ∧ State.TimeOk { awaiting 0x40#8 15 0 [] with par := ⟨4, false⟩ } := by decide
theorem witness_AuxiliaryWordIsServedFirst :
    (offering 0x0104#16 (idleWith [])).pins.rst = false ∧ (offering 0x0104#16 (idleWith [])).busy = false ∧
    (offering 0x0104#16 (idleWith [])).par.auxPresent = true ∧ (offering 0x0104#16 (idleWith [])).pins.auxValid = true := by decide
theorem witness_AcknowledgedRequestCompletes :
    ∀ src ∈ [Source.framer, Source.aux], (answering src Request.zero ⟨true, 0, 0, 0⟩).pins.rst = false ∧
      (answering src Request.zero ⟨true, 0, 0, 0⟩).busy = true ∧
      (answering src Request.zero ⟨true, 0, 0, 0⟩).pins.execAck = true ∧
      (answering src Request.zero ⟨true, 0, 0, 0⟩).srcReg = src := by decide

/-- A state with a request outstanding that is not answered in its cycle or the eight after it. -/
def waiting : State := { idleWith [0x40#8] with busy := true }

theorem witness_UnansweredRequestWaits :
    waiting.pins.rst = false ∧ waiting.busy = true ∧ waiting.pins.execAck = false := by decide
theorem witness_ResetCycleSetsEveryRegister : Pins.rst (State.pins { idleWith [] with pins := { Pins.idle with rst := true } }) = true := by decide
theorem witness_EnvironmentMovesBetweenCycles :
    (idleWith []).script = quiet 1 :: List.replicate 7 (quiet 1) ∧ State.reset.script = [] := by decide

/-! Witnesses of the statements about the whole machine. -/

/-- A cycle that answers next, serves no TXTEST, and, in the first two, writes `upper_len`. -/
theorem witness_UpperLenWritersAndReader :
    ∀ s ∈ [idleWith [0x00#8, 0x00#8], idleWith [0x01#8, 0x0C#8], idleWith [], waiting],
      (after (step s)).isSome = true ∧ (s.served = none ∨ s.served = some (.setupReset 0x00#8) ∨ s.served = some (.setupUpper 0x0C#8)) := by
  decide
/-- The word of number `n`. -/
def wordOf (n : Nat) : Word := BitVec.ofNat 16 n

/-- The ends of the ranges listed as BAD_CONTROL. -/
theorem witness_DecodeErrorsAreExactlyTheListedWords_badControl :
    (∀ n ∈ [0x0200, 0x03FF, 0x0600, 0x3FFF], (wordOf n).toNat / 0x4000 = 0 ∧ (wordOf n).toNat / 0x100 % 0x40 ≠ 0x00 ∧
      (wordOf n).toNat / 0x100 % 0x40 ≠ 0x01 ∧ (wordOf n).toNat / 0x100 % 0x40 ≠ 0x04 ∧ (wordOf n).toNat / 0x100 % 0x40 ≠ 0x05) ∧
    (∀ n ∈ [0xC100, 0xFFFF], (wordOf n).toNat / 0x4000 = 3 ∧ (wordOf n).toNat / 0x100 % 0x40 ≠ 0) := by decide
/-- The ends of the ranges listed as BAD_PARAM. -/
theorem witness_DecodeErrorsAreExactlyTheListedWords_badParam :
    (∀ n ∈ [0x0511, 0x05FF], (wordOf n).toNat / 0x4000 = 0 ∧ (wordOf n).toNat / 0x100 % 0x40 = 0x05 ∧ 0x10 < (wordOf n).toNat % 0x100) ∧
    (∀ n ∈ [0xC00B, 0xC0FF], (wordOf n).toNat / 0x4000 = 3 ∧ (wordOf n).toNat / 0x100 % 0x40 = 0 ∧ 0x0A < (wordOf n).toNat % 0x100) := by decide
/-- Words just outside both lists. -/
theorem witness_DecodeErrorsAreExactlyTheListedWords_others :
    ∀ n ∈ [0x0510, 0xC00A, 0x0000, 0x01FF, 0x0400, 0x4000, 0xBFFF],
      ¬ (((wordOf n).toNat / 0x4000 = 0 ∧ (wordOf n).toNat / 0x100 % 0x40 ≠ 0x00 ∧ (wordOf n).toNat / 0x100 % 0x40 ≠ 0x01 ∧
          (wordOf n).toNat / 0x100 % 0x40 ≠ 0x04 ∧ (wordOf n).toNat / 0x100 % 0x40 ≠ 0x05) ∨
        ((wordOf n).toNat / 0x4000 = 3 ∧ (wordOf n).toNat / 0x100 % 0x40 ≠ 0)) ∧
      ¬ (((wordOf n).toNat / 0x4000 = 0 ∧ (wordOf n).toNat / 0x100 % 0x40 = 0x05 ∧ 0x10 < (wordOf n).toNat % 0x100) ∨
        ((wordOf n).toNat / 0x4000 = 3 ∧ (wordOf n).toNat / 0x100 % 0x40 = 0 ∧ 0x0A < (wordOf n).toNat % 0x100)) := by decide
theorem witness_DesyncChangesOnlyTheFramerState :
    (after (step (awaiting 0x40#8 0 6 []))).map (fun t => t.out.diagCode) = some .desync := by decide
theorem witness_ServingHasOnlyTheListedEffects :
    (∀ p, Instr.rxtest 5#6 0#8 ≠ .setupReset p) ∧ (∀ p, Instr.rxtest 5#6 0#8 ≠ .setupUpper p) := by
  constructor <;> intro p h <;> cases h
theorem witness_ChannelsMoveOnlyByPopsAndWrites :
    (after (step (idleWith [0x01#8, 0x0C#8, 0x40#8]))).isSome = true ∧ (after (step (idleWith []))).isSome = true := by decide
/-- Three cycles that form a word, then wait for the executor, with no reset among them. -/
theorem witness_EveryFramerWordGetsExactlyOneResponse :
    ∀ k u, k < 3 → run k (idleWith [0x45#8, 0x00#8]) = .next u → u.pins.rst = false := by
  intro k u hk h
  match k, hk with
  | 0, _ => cases h; rfl
  | 1, _ => cases h; rfl
  | 2, _ => cases h; rfl
theorem witness_StepKeepsTheInvariant :
    State.reset.Inv ∧ (awaiting 0x40#8 0 6 []).Inv ∧ (after (step (awaiting 0x40#8 0 6 []))).isSome = true :=
  ⟨⟨by decide, by decide, by decide, by decide, by decide, by decide⟩,
    ⟨by decide, by decide, by decide, by decide, by decide, by decide⟩, by decide⟩
/-- Two idle states with other values in `hi` and `ts`. -/
theorem witness_StaleFramingRegistersAreNeverObserved :
    (idleWith [0x45#8]).SameButStale { idleWith [0x45#8] with hi := 0xAB, ts := 3 } ∧
    (after (step (idleWith [0x45#8]))).isSome = true :=
  ⟨⟨rfl, by decide⟩, by decide⟩
theorem witness_UnwiredAuxiliaryPortHasNoEffect :
    State.par { idleWith [] with par := ⟨32, false⟩ } = ⟨32, false⟩ ∧
    (after (step { idleWith [] with par := ⟨32, false⟩ })).isSome = true := by decide
theorem witness_AcknowledgementWithoutRequestIsIgnored :
    (idleWith []).busy = false ∧ (after (step (idleWith []))).isSome = true ∧
    State.busy { waiting with pins := { Pins.idle with rst := true } } = true ∧
    State.pins { waiting with pins := { Pins.idle with rst := true } } = { Pins.idle with rst := true } := by decide
/-- The byte 0x14 arrives before the next cycle, 20 time units later. -/
theorem witness_SlowPathFormsTheFastPathsWord :
    ∃ (s : State) (inp : CycleInput), s = { idleWith [0x40#8] with script := [inp] } ∧
      inp = { quiet 20 with arrivals := [0x14#8] } ∧ s.pins.rst = false ∧ s.busy = false ∧
      ¬ (s.par.auxPresent = true ∧ s.pins.auxValid = true) ∧ s.fr = .idle ∧ s.rx = [0x40#8] ∧ s.script = inp :: [] ∧
      inp.rst = false ∧ inp.auxValid = false ∧ inp.arrivals = 0x14#8 :: [] :=
  ⟨_, _, rfl, rfl, by decide⟩
/-- A run of one cycle that serves a TXTEST. -/
theorem witness_UpperLenPersistsUntilRewritten :
    (after (run 1 (idleWith [0x83#8, 0x95#8]))).isSome = true ∧
    ∀ k u, k < 1 → run k (idleWith [0x83#8, 0x95#8]) = .next u → u.writesUpper = false := by
  refine ⟨by decide, fun k u hk h => ?_⟩
  obtain rfl : k = 0 := by omega
  cases h; decide
theorem witness_RequestIsHeldUntilAnswered :
    waiting.busy = true ∧ waiting.pins.rst = false ∧ waiting.pins.execAck = false ∧ 8 ≤ waiting.script.length ∧
    ∀ inp ∈ waiting.script.take 8, inp.rst = false ∧ inp.execAck = false := by decide
/-- The byte was taken just now, and five time units ago. -/
theorem witness_HeldByteIsDroppedSixUnitsAfterItCame :
    ∀ k ∈ [0, 5], (awaiting 0x40#8 0 k []).TimeOk ∧ (awaiting 0x40#8 0 k []).fr = .await ∧
      (awaiting 0x40#8 0 k []).busy = false ∧ (awaiting 0x40#8 0 k []).pins.rst = false ∧
      (awaiting 0x40#8 0 k []).pins.auxValid = false ∧ (awaiting 0x40#8 0 k []).rx = [] ∧
      (awaiting 0x40#8 0 k []).elapsed = k ∧ k ≤ 5 ∧
      (awaiting 0x40#8 0 k []).script = List.replicate (6 - k) (quiet 1) ++ List.replicate (2 + k) (quiet 1) ∧
      (List.replicate (6 - k) (quiet 1)).length = 6 - k ∧ ∀ inp ∈ List.replicate (6 - k) (quiet 1), QuietInput inp 1 := by decide
/-- `TXTEST 3, 0x25, 1` with an executor that answers in the next cycle. -/
theorem witness_FramerCommandIsAnsweredOnTheWire :
    ∃ (s : State) (inp : CycleInput), s = { idleWith [0x83#8, 0x95#8] with script := [inp] } ∧
      inp = { quiet 1 with execAck := true } ∧ s.pins.rst = false ∧ s.busy = false ∧
      ¬ (s.par.auxPresent = true ∧ s.pins.auxValid = true) ∧ s.fr = .idle ∧ s.rx = [0x83#8, 0x95#8] ∧
      s.script = inp :: [] ∧ inp.rst = false ∧ inp.execAck = true ∧ inp.auxValid = false ∧ inp.arrivals = [] :=
  ⟨_, _, rfl, rfl, by decide⟩

end Sys2Proof.Tests
end

section
/-! PROOF. R13: who writes `upper_len` and who depends on it. The idea: writing `upper_len` commutes with everything a
cycle does before it serves a command, and with performing a plan; only the plan of TXTEST looks at the value. -/

namespace Sys2Proof.Machine

/-! ### Writing `upper_len` commutes with the shared operations -/

@[simp] theorem State.clearOutputs_setUpper (u : Byte) (s : State) :
    (s.setUpper u).clearOutputs = s.clearOutputs.setUpper u := rfl
@[simp] theorem State.takeAux_setUpper (u : Byte) (s : State) : (s.setUpper u).takeAux = s.takeAux.setUpper u := rfl
@[simp] theorem State.popRx_setUpper (n : Nat) (u : Byte) (s : State) :
    (s.setUpper u).popRx n = (s.popRx n).setUpper u := rfl
@[simp] theorem State.holdHigh_setUpper (b u : Byte) (s : State) :
    (s.setUpper u).holdHigh b = (s.holdHigh b).setUpper u := rfl
@[simp] theorem State.toIdle_setUpper (u : Byte) (s : State) : (s.setUpper u).toIdle = s.toIdle.setUpper u := rfl
@[simp] theorem State.release_setUpper (u : Byte) (s : State) : (s.setUpper u).release = s.release.setUpper u := rfl
@[simp] theorem State.respond_setUpper (src : Source) (resp : Word) (u : Byte) (s : State) :
    (s.setUpper u).respond src resp = (s.respond src resp).setUpper u := by cases src <;> rfl
@[simp] theorem State.diag_setUpper (code : DiagCode) (u : Byte) (s : State) :
    (s.setUpper u).diag code = (s.diag code).setUpper u := by cases code <;> rfl
@[simp] theorem State.complete_setUpper (u : Byte) (s : State) :
    (s.setUpper u).complete = s.complete.setUpper u := by simp [State.complete]
@[simp] theorem State.between_setUpper (u : Byte) (s : State) : (s.setUpper u).between = s.between.setUpper u := by
  unfold State.between
  rw [State.setUpper_script]
  cases s.script <;> rfl

/-- A hardware reset overwrites `upper_len`, whatever it was. -/
@[simp] theorem State.hardReset_setUpper (u : Byte) (s : State) : (s.setUpper u).hardReset = s.hardReset := rfl

@[simp] theorem State.rxCount_setUpper (u : Byte) (s : State) : (s.setUpper u).rxCount = s.rxCount := rfl
@[simp] theorem State.rxPeek_setUpper (i : Nat) (u : Byte) (s : State) : (s.setUpper u).rxPeek i = s.rxPeek i := rfl
@[simp] theorem State.elapsed_setUpper (u : Byte) (s : State) : (s.setUpper u).elapsed = s.elapsed := rfl
@[simp] theorem State.auxOffered_setUpper (u : Byte) (s : State) : (s.setUpper u).auxOffered = s.auxOffered := rfl

/-! ### Before a command is served, a cycle neither reads nor writes `upper_len` -/

/-- The same fetch with `u` in `upper_len`. -/
def Fetched.setUpper (u : Byte) : Fetched → Fetched
  | .done t => .done (t.setUpper u)
  | .serve w t => .serve w (t.setUpper u)

@[simp] theorem Fetched.setUpper_done (u : Byte) (t : State) : Fetched.setUpper u (.done t) = .done (t.setUpper u) := rfl
@[simp] theorem Fetched.setUpper_serve (u : Byte) (w : Word) (t : State) :
    Fetched.setUpper u (.serve w t) = .serve w (t.setUpper u) := rfl

theorem State.poll_setUpper (u : Byte) (s : State) : (s.setUpper u).poll = s.poll.setUpper u := by
  unfold State.poll
  rw [State.setUpper_fr]
  cases s.fr with
  | idle =>
    by_cases h2 : s.rxCount = 2
    · simp [h2]
    · by_cases h1 : s.rxCount = 1 <;> simp [h2, h1]
  | await =>
    by_cases h1 : 1 ≤ s.rxCount
    · simp [h1]
    · by_cases ht : Config.timeoutUnits < s.elapsed <;> simp [h1, ht]

/-- R25: a cycle without a reset does the same with another `upper_len`, up to the point where it serves. -/
theorem State.fetch_setUpper {s : State} (hrst : s.pins.rst = false) (u : Byte) :
    (s.setUpper u).fetch = s.fetch.setUpper u := by
  simp [State.fetch, hrst, State.poll_setUpper, apply_ite (Fetched.setUpper u)]

/-- A reset cycle is over before any command, with every register set. -/
theorem State.fetch_of_rst {s : State} (hrst : s.pins.rst = true) : s.fetch = .done s.hardReset := by
  simp [State.fetch, hrst]

theorem State.rst_of_serve {s t : State} {w : Word} (h : s.fetch = .serve w t) : s.pins.rst = false := by
  cases hrst : s.pins.rst with
  | false => rfl
  | true => rw [State.fetch_of_rst hrst] at h; cases h

/-- Writing back the value that stands in `upper_len` changes nothing, so a fetch that commutes with the write keeps it. -/
theorem State.fetch_eq_setUpper_self {s : State} (hrst : s.pins.rst = false) :
    s.fetch = s.fetch.setUpper s.upperLen := State.fetch_setUpper hrst s.upperLen

theorem State.upperLen_of_serve {s t : State} {w : Word} (h : s.fetch = .serve w t) : t.upperLen = s.upperLen := by
  have hself := State.fetch_eq_setUpper_self (State.rst_of_serve h)
  rw [h, Fetched.setUpper_serve] at hself
  injection hself with _ ht
  rw [ht, State.setUpper_upperLen]

theorem State.upperLen_of_done {s t : State} (hrst : s.pins.rst = false) (h : s.fetch = .done t) :
    t.upperLen = s.upperLen := by
  have hself := State.fetch_eq_setUpper_self hrst
  rw [h, Fetched.setUpper_done] at hself
  injection hself with ht
  rw [ht, State.setUpper_upperLen]

/-! ### Serving a command -/

/-- R69: performing a plan overwrites `upper_len`, and two plans of one action differ in that write only. -/
theorem State.perform_setUpper {p q : Plan} (h : p.action = q.action) (u : Byte) (s : State) :
    (s.setUpper u).perform p = (s.perform q).setUpper p.upperNext := by
  obtain ⟨up, a⟩ := p
  obtain ⟨uq, b⟩ := q
  obtain rfl : a = b := h
  cases a with
  | call r => rfl
  | immediate resp code => simp only [State.perform_immediate, State.respond_setUpper, State.diag_setUpper]; rfl

/-- R13, R86: only TXTEST's action depends on `upper_len`. -/
theorem planOf_action_eq {i : Instr} (hi : ∀ ch len pkt, i ≠ .txtest ch len pkt) (u v : Byte) :
    (planOf i u).action = (planOf i v).action := by
  cases i with
  | txtest ch len pkt => exact absurd rfl (hi ch len pkt)
  | setupMax p | setupMaxBadparam p => simp only [planOf, planReadMax]; split <;> rfl
  | testend p | testendBadparam p | testendBadctrl c p => simp only [planOf, planTestEnd]; split_ifs <;> rfl
  | _ => rfl

/-- R13: a command that writes `upper_len` writes the same whatever stood there; any other keeps what stood there. -/
theorem planOf_upperNext_eq_ite_writesUpper {s : State} {i : Instr} (hrst : s.pins.rst = false) (hi : s.served = some i)
    (u v : Byte) : (planOf i u).upperNext = if s.writesUpper then (planOf i v).upperNext else u := by
  simp only [State.writesUpper, hrst, hi, planOf_upperNext]
  cases i <;> rfl

/-- R13: a cycle that serves nothing and is no reset writes no `upper_len`. -/
theorem State.writesUpper_of_served_none {s : State} (hrst : s.pins.rst = false) (hi : s.served = none) :
    s.writesUpper = false := by
  simp [State.writesUpper, hrst, hi]

theorem State.writesUpper_of_rst {s : State} (hrst : s.pins.rst = true) : s.writesUpper = true := by
  simp [State.writesUpper, hrst]

/-! ### The step, by what the cycle does: reset, nothing served, a command served -/

/-- R25, R124. -/
theorem step_of_rst {s : State} (hrst : s.pins.rst = true) : step s = .next s.hardReset.between :=
  step_done (State.fetch_of_rst hrst)

/-- R13: the value a served command leaves in `upper_len` is its plan's. -/
theorem step_serve_upperLen {s t t' : State} {w : Word} (h : s.fetch = .serve w t') (ht : step s = .next t) :
    t.upperLen = (planOf (decode w) s.upperLen).upperNext := by
  rw [step_serve h] at ht
  injection ht with ht
  rw [← ht, State.between_upperLen, State.perform_upperLen, State.upperLen_of_serve h]

/-- A cycle that serves nothing and is no reset keeps `upper_len`. -/
theorem step_done_upperLen {s t t' : State} (hrst : s.pins.rst = false) (h : s.fetch = .done t')
    (ht : step s = .next t) : t.upperLen = s.upperLen := by
  rw [step_done h] at ht
  injection ht with ht
  rw [← ht, State.between_upperLen, State.upperLen_of_done hrst h]

/-- A reset cycle ends in the same state with any other `upper_len`. -/
theorem step_setUpper_of_rst {s : State} (hrst : s.pins.rst = true) (u : Byte) : step (s.setUpper u) = step s := by
  rw [step_of_rst hrst, step_of_rst (s := s.setUpper u) hrst, State.hardReset_setUpper]

/-- A cycle that serves nothing and is no reset carries any `upper_len` through. -/
theorem step_setUpper_of_done {s t t' : State} (hrst : s.pins.rst = false) (h : s.fetch = .done t')
    (ht : step s = .next t) (u : Byte) : step (s.setUpper u) = .next (t.setUpper u) := by
  have hu : (s.setUpper u).fetch = .done (t'.setUpper u) := by
    rw [State.fetch_setUpper hrst, h, Fetched.setUpper_done]
  rw [step_done h] at ht
  injection ht with ht
  rw [step_done hu, State.between_setUpper, ht]

/-- R13, R69: with another `upper_len`, a cycle that serves anything but a TXTEST differs only in the value it leaves
there, which is its plan's. -/
theorem step_setUpper_of_serve {s t t' : State} {w : Word} (h : s.fetch = .serve w t')
    (hi : ∀ ch len pkt, decode w ≠ .txtest ch len pkt) (ht : step s = .next t) (u : Byte) :
    step (s.setUpper u) = .next (t.setUpper (planOf (decode w) u).upperNext) := by
  have hu : (s.setUpper u).fetch = .serve w (t'.setUpper u) := by
    rw [State.fetch_setUpper (State.rst_of_serve h), h, Fetched.setUpper_serve]
  rw [step_serve h] at ht
  injection ht with ht
  rw [step_serve hu, State.setUpper_upperLen, State.perform_setUpper (planOf_action_eq hi u t'.upperLen),
    State.between_setUpper, ht]

/-- R13: with another `upper_len`, a cycle that serves no TXTEST differs only in carrying that value through where it
does not write the register. -/
theorem step_setUpper {s t : State} (ht : step s = .next t) (hi : ∀ ch len pkt, s.served ≠ some (.txtest ch len pkt))
    (u : Byte) : step (s.setUpper u) = .next (t.setUpper (if s.writesUpper then t.upperLen else u)) := by
  cases hrst : s.pins.rst with
  | true => rw [step_setUpper_of_rst hrst, ht, State.writesUpper_of_rst hrst]; rfl
  | false =>
    cases h : s.fetch with
    | done t' =>
      rw [step_setUpper_of_done hrst h ht, State.writesUpper_of_served_none hrst (State.served_of_done h)]; rfl
    | serve w t' =>
      have hserved := State.served_of_serve h
      have hw : ∀ ch len pkt, decode w ≠ .txtest ch len pkt := by
        intro ch len pkt hd
        exact hi ch len pkt (by rw [hserved, hd])
      rw [step_setUpper_of_serve h hw ht, step_serve_upperLen h ht,
        planOf_upperNext_eq_ite_writesUpper hrst hserved u s.upperLen]

/-- Settles O41: the writers by the three kinds of cycle (reset, nothing served, a command served), and the independence
because writing `upper_len` commutes with such a cycle. -/
theorem upperLenWritersAndReader : Obligations.UpperLenWritersAndReader := by
  unfold Obligations.UpperLenWritersAndReader
  constructor
  · intro s t ht
    cases hrst : s.pins.rst with
    | true =>
      rw [step_of_rst hrst] at ht
      injection ht with ht
      rw [← ht, State.between_upperLen, State.hardReset_upperLen, if_pos rfl]
    | false =>
      rw [if_neg Bool.false_ne_true]
      cases h : s.fetch with
      | done t' => rw [step_done_upperLen hrst h ht, State.served_of_done h]
      | serve w t' =>
        rw [step_serve_upperLen h ht, State.served_of_serve h, planOf_upperNext]
        cases decode w <;> rfl
  · intro s t u ht hi
    exact step_setUpper ht hi u

end Sys2Proof.Machine
end

section
/-! PROOF. 30_encoding.md: the decoder against the formats (R49 to R51) and the opcode table (R56). Two ideas. Every
word is the encoding of the well-formed instruction it decodes to, so what is known of encodings is known of words. The
rows of the table, in its order, are blocks that tile the 65536 words from 0 on, so exactly one covers a word. -/

namespace Sys2Proof

/-! ### A word is the encoding of the instruction it decodes to -/

theorem encode_decodeSetup (c : BitVec 6) (p : Byte) : encode (decodeSetup c p) = formatCP 0b00#2 c p := by
  unfold decodeSetup
  split_ifs with h0 h1 h4 h5 hp
  · rw [h0]; rfl
  · rw [h1]; rfl
  · rw [h4]; rfl
  · rw [h5]; rfl
  · rw [h5]; rfl
  · rfl

theorem encode_decodeTestEnd (c : BitVec 6) (p : Byte) : encode (decodeTestEnd c p) = formatCP 0b11#2 c p := by
  unfold decodeTestEnd
  split_ifs with hc hp
  · rfl
  · rw [not_not.mp hc]; rfl
  · rw [not_not.mp hc]; rfl

theorem decodeSetup_wf (c : BitVec 6) (p : Byte) : (decodeSetup c p).wf = true := by
  unfold decodeSetup
  split_ifs <;> simp_all [Instr.wf]

theorem decodeTestEnd_wf (c : BitVec 6) (p : Byte) : (decodeTestEnd c p).wf = true := by
  unfold decodeTestEnd
  split_ifs <;> simp_all [Instr.wf]

/-- R48: an opcode that is none of 00, 01 and 10 is 11. -/
theorem opcodeField_eq_three {w : Word} (h0 : opcodeField w ≠ 0b00#2) (h1 : opcodeField w ≠ 0b01#2)
    (h2 : opcodeField w ≠ 0b10#2) : opcodeField w = 0b11#2 := by
  generalize opcodeField w = o at h0 h1 h2 ⊢
  revert o
  decide

theorem encode_decode (w : Word) : encode (decode w) = w := by
  unfold decode
  split_ifs with h0 h1 h2
  · rw [encode_decodeSetup, ← h0, formatCP_fields]
  · exact formatRX_fields h1
  · exact formatTX_fields h2
  · rw [encode_decodeTestEnd, ← opcodeField_eq_three h0 h1 h2, formatCP_fields]

theorem decode_wf (w : Word) : (decode w).wf = true := by
  unfold decode
  split_ifs with h0 h1 h2
  · exact decodeSetup_wf _ _
  · rfl
  · rfl
  · exact decodeTestEnd_wf _ _

/-- R48: the opcode field of an encoding is its family's opcode. -/
theorem opcodeField_encode (i : Instr) : opcodeField (encode i) = i.family.opcode := by
  cases i with
  | rxtest ch ign => exact opcodeField_formatRX ch ign
  | txtest ch len pkt => exact opcodeField_formatTX ch len pkt
  | _ => exact opcodeField_formatCP _ _ _

/-- R48: the opcode field names the family of the decoded instruction. -/
theorem opcodeField_eq_family (w : Word) : opcodeField w = (decode w).family.opcode := by
  rw [← opcodeField_encode, encode_decode]

/-! ### The rows of the opcode table tile the words -/

/-- The number of low bits that a row's mask leaves free. -/
def Row.freeBits (r : Row) : Nat := Nat.log2 (2 ^ 16 - r.mask.toNat)

/-- The number just past the row's last word, when the row is a block. -/
def Row.stop (r : Row) : Nat := r.pattern.toNat + 2 ^ r.freeBits

/-- The row fixes all bits from `freeBits` on, and its pattern leaves the free bits 0. -/
def Row.isBlock (r : Row) : Bool :=
  r.mask == BitVec.allOnes 16 <<< r.freeBits && r.pattern.toNat % 2 ^ r.freeBits == 0

/-- The rows are blocks, each begins where the one before it stops, the first at `a`, and the last stops at `b`. -/
def tiles : Nat → List Row → Nat → Bool
  | a, [], b => a == b
  | a, r :: rs, b => r.isBlock && (r.pattern.toNat == a && tiles r.stop rs b)

theorem tiles_cons {a b : Nat} {r : Row} {rs : List Row} (h : tiles a (r :: rs) b = true) :
    r.isBlock = true ∧ r.pattern.toNat = a ∧ tiles r.stop rs b = true := by
  simpa [tiles] using h

theorem tiles_opcodeTable : tiles 0 opcodeTable 65536 = true := by decide

/-- A block covers the words from its pattern up to its stop. -/
theorem Row.covers_iff {r : Row} (h : r.isBlock = true) (w : Word) :
    r.covers w = true ↔ r.pattern.toNat ≤ w.toNat ∧ w.toNat < r.stop := by
  obtain ⟨hmask, hdvd⟩ : r.mask = BitVec.allOnes 16 <<< r.freeBits ∧ r.pattern.toNat % 2 ^ r.freeBits = 0 := by
    simpa [Row.isBlock] using h
  obtain ⟨m, hm⟩ := Nat.dvd_of_mod_eq_zero hdvd
  have hpos : 0 < 2 ^ r.freeBits := Nat.two_pow_pos _
  have hmasked : (w &&& r.mask).toNat = 2 ^ r.freeBits * (w.toNat / 2 ^ r.freeBits) := by
    rw [hmask, ← BitVec.shiftLeft_ushiftRight, BitVec.toNat_shiftLeft, BitVec.toNat_ushiftRight,
      Nat.shiftLeft_eq, Nat.shiftRight_eq_div_pow, mul_comm]
    exact Nat.mod_eq_of_lt (lt_of_le_of_lt (Nat.mul_div_le _ _) w.isLt)
  rw [Row.covers, beq_iff_eq, ← BitVec.toNat_inj, hmasked, Row.stop, hm, Nat.mul_right_inj hpos.ne',
    Nat.div_eq_iff hpos, mul_comm m]
  omega

/-- Rows that tile a range cover no word below it. -/
theorem filter_covers_below {rs : List Row} {a b : Nat} (h : tiles a rs b = true) {w : Word} (hw : w.toNat < a) :
    rs.filter (fun r => r.covers w) = [] := by
  induction rs generalizing a with
  | nil => rfl
  | cons r rs ih =>
    obtain ⟨hr, rfl, hrs⟩ := tiles_cons h
    have hno : ¬ r.covers w = true := fun hc => absurd ((Row.covers_iff hr w).mp hc).1 (not_le.mpr hw)
    have hstop : w.toNat < r.stop := Nat.lt_add_right _ hw
    simp [hno, ih hrs hstop]

/-- Of rows that tile a range, exactly one covers a word of the range. -/
theorem filter_covers_of_tiles {rs : List Row} {a b : Nat} (h : tiles a rs b = true) {w : Word} (ha : a ≤ w.toNat)
    (hb : w.toNat < b) :
    ∃ r ∈ rs, rs.filter (fun r => r.covers w) = [r] ∧ r.pattern.toNat ≤ w.toNat ∧ w.toNat < r.stop := by
  induction rs generalizing a with
  | nil =>
    have hab : a = b := by simpa [tiles] using h
    omega
  | cons r rs ih =>
    obtain ⟨hr, rfl, hrs⟩ := tiles_cons h
    by_cases hw : w.toNat < r.stop
    · have hyes : r.covers w = true := (Row.covers_iff hr w).mpr ⟨ha, hw⟩
      exact ⟨r, List.mem_cons_self, by simp [hyes, filter_covers_below hrs hw], ha, hw⟩
    · have hno : ¬ r.covers w = true := fun hc => hw ((Row.covers_iff hr w).mp hc).2
      obtain ⟨r', hmem, hfilter, hrange⟩ := ih hrs (not_lt.mp hw)
      exact ⟨r', List.mem_cons_of_mem r hmem, by simp [hno, hfilter], hrange⟩

/-! ### The words of a mnemonic by number -/

/-- Words from `first` on, up to `stop` without it, of one mnemonic. -/
structure Span where
  first : Nat
  stop : Nat
  mnemonic : Mnemonic

/-- R48, R52, R53, R83, R89: the commands by word number. -/
def commandSpans : List Span :=
  [⟨0x0000, 0x0100, .SETUP_RESET⟩, ⟨0x0100, 0x0200, .SETUP_UPPER⟩, ⟨0x0200, 0x0400, .SETUP_RSVD⟩,
    ⟨0x0400, 0x0500, .SETUP_FEAT⟩, ⟨0x0500, 0x0511, .SETUP_MAX⟩, ⟨0x0511, 0x0600, .SETUP_MAX_BADPARAM⟩,
    ⟨0x0600, 0x4000, .SETUP_RSVD⟩, ⟨0x4000, 0x8000, .RXTEST⟩, ⟨0x8000, 0xC000, .TXTEST⟩,
    ⟨0xC000, 0xC00B, .TESTEND⟩, ⟨0xC00B, 0xC100, .TESTEND_BADPARAM⟩, ⟨0xC100, 0x10000, .TESTEND_BADCTRL⟩]

/-- A row of the table that meets a span carries its mnemonic. -/
theorem row_mnemonic_of_meets_span : ∀ r ∈ opcodeTable, ∀ x ∈ commandSpans,
    r.pattern.toNat < x.stop → x.first < r.stop → r.mnemonic = x.mnemonic := by decide

/-- The word of a well-formed instruction lies in a span of its mnemonic. -/
theorem encode_mem_span {i : Instr} (h : i.wf = true) : ∃ x ∈ commandSpans,
    x.mnemonic = i.mnemonic ∧ x.first ≤ (encode i).toNat ∧ (encode i).toNat < x.stop := by
  cases i with
  | setupReset p | setupUpper p | setupFeat p =>
    simp [commandSpans, Instr.mnemonic, encode, formatCP_toNat]; omega
  | setupMax p | setupMaxBadparam p | testend p | testendBadparam p =>
    simp [Instr.wf, BitVec.le_def, BitVec.lt_def] at h
    simp [commandSpans, Instr.mnemonic, encode, formatCP_toNat]; omega
  | setupRsvd c p | testendBadctrl c p =>
    simp [Instr.wf, ← BitVec.toNat_inj] at h
    simp [commandSpans, Instr.mnemonic, encode, formatCP_toNat]; omega
  | rxtest ch ign => simp [commandSpans, Instr.mnemonic, encode, formatRX_toNat]; omega
  | txtest ch len pkt => simp [commandSpans, Instr.mnemonic, encode, formatTX_toNat]; omega

/-- Settles O3: the rows tile the words, and the one that covers a word meets the span of the word's mnemonic. -/
theorem everyWordIsInExactlyOneTableRow : Obligations.EveryWordIsInExactlyOneTableRow := by
  unfold Obligations.EveryWordIsInExactlyOneTableRow
  intro w
  refine ⟨?_, (opcodeField_eq_family w).symm⟩
  obtain ⟨r, hr, hfilter, hlo, hhi⟩ := filter_covers_of_tiles tiles_opcodeTable (Nat.zero_le _) w.isLt
  obtain ⟨x, hx, hm, hfirst, hstop⟩ := encode_mem_span (decode_wf w)
  rw [encode_decode] at hfirst hstop
  have hrow : r.mnemonic = x.mnemonic :=
    row_mnemonic_of_meets_span r hr x hx (lt_of_le_of_lt hlo hstop) (lt_of_le_of_lt hfirst hhi)
  rw [hfilter, List.map_singleton, hrow, hm]

/-- Settles O5: a word is the encoding of what it decodes to, and the fields of an encoding are its operands. -/
theorem operandsAreTheWordsFields : Obligations.OperandsAreTheWordsFields := by
  unfold Obligations.OperandsAreTheWordsFields
  intro w
  refine ⟨opcodeField_eq_family w, ?_⟩
  have hw := encode_decode w
  generalize decode w = i at hw
  subst hw
  cases i with
  | rxtest ch ign => exact ⟨(channelField_formatRX ch ign).symm, (ignoredField_formatRX ch ign).symm⟩
  | txtest ch len pkt =>
    exact ⟨(channelField_formatTX ch len pkt).symm, (lengthField_formatTX ch len pkt).symm,
      (packetTypeField_formatTX ch len pkt).symm⟩
  | setupRsvd c p | testendBadctrl c p =>
    exact ⟨(controlField_formatCP _ c p).symm, (parameterField_formatCP _ c p).symm⟩
  | setupReset p | setupUpper p | setupFeat p | setupMax p | setupMaxBadparam p | testend p | testendBadparam p =>
    exact ⟨controlField_formatCP _ _ p, (parameterField_formatCP _ _ p).symm⟩

end Sys2Proof
end

section
/-! PROOF. The operand word of Set Upper Bits and the packet-reporting word (30_encoding.md R57, R61), each written as
the concatenation of its fields. -/

namespace Sys2Proof.Machine

/-- R57: of the parameter only bits [3:2] survive, at bits [7:6]. -/
theorem upperValue_eq_append (p : Byte) : upperValue p = p.extractLsb' 2 2 ++ 0b000000#6 := by
  apply BitVec.eq_of_getLsbD_eq
  intro i hi
  have hmask : (0x00C0#16).getLsbD i = decide (6 ≤ i) := by interval_cases i <;> rfl
  rw [BitVec.getLsbD_append, upperValue, BitVec.getLsbD_setWidth, BitVec.getLsbD_and, hmask]
  by_cases h6 : i < 6
  · simp [h6]
  · obtain ⟨k, rfl⟩ := Nat.exists_eq_add_of_le (not_lt.mp h6)
    have hk : k < 2 := by omega
    interval_cases k <;> simp

/-- Settles O8: SETUP.UPPER performs a plan whose `upper_len` is `upperValue`. -/
theorem upperValueKeepsTwoParameterBits : Obligations.UpperValueKeepsTwoParameterBits := by
  unfold Obligations.UpperValueKeepsTwoParameterBits
  intro p
  refine ⟨fun s => ⟨_, exec_eq_perform (.setupUpper p) s, ?_⟩, upperValue_eq_append p⟩
  rw [State.perform_upperLen, planOf_upperNext]
  rfl

/-- R72: the answer to a successful END_TEST is its packet report. -/
theorem encodeAnswer_endTest_of_ok {ans : Answer} (h : ans.ok = true) :
    encodeAnswer .endTest ans = (packetReport ans.count, .none) := by
  simp [encodeAnswer, okOrFail, h]

/-- R61: a packet report is the bit 1 and then the count. -/
theorem packetReport_eq_append (count : BitVec 15) : packetReport count = 0b1#1 ++ count := rfl

/-- Settles O13: the answer is bit 1 followed by the count, so its fields are read off the concatenation. -/
theorem packetReportCarriesTheCount : Obligations.PacketReportCarriesTheCount := by
  unfold Obligations.PacketReportCarriesTheCount
  intro ans hok
  rw [encodeAnswer_endTest_of_ok hok]
  refine ⟨rfl, ?_, ?_⟩
  · rw [packetReport_eq_append, BitVec.getLsbD_append]; rfl
  · rw [packetReport_eq_append]; exact BitVec.extractLsb'_append_eq_right

end Sys2Proof.Machine
end

section
/-! PROOF. 41_test_setup.md: what the words of opcode 00 decode to, and what serving them does. -/

namespace Sys2Proof

/-- R67, arm 0b00: a word of opcode 00 is decoded by its control and parameter. -/
theorem decode_formatCP_setup (c : BitVec 6) (p : Byte) : decode (formatCP 0b00#2 c p) = decodeSetup c p := by
  simp [decode]

/-- R67, R84: a control that is none of the four assigned codes is reserved. -/
theorem decodeSetup_of_reserved {c : BitVec 6} (h0 : c ≠ 0x00#6) (h1 : c ≠ 0x01#6) (h4 : c ≠ 0x04#6) (h5 : c ≠ 0x05#6)
    (p : Byte) : decodeSetup c p = .setupRsvd c p := by
  rw [decodeSetup, if_neg h0, if_neg h1, if_neg h4, if_neg h5]

end Sys2Proof

namespace Sys2Proof.Machine

/-- Settles O20: a reserved control falls through the chain of assigned codes, and SETUP.RSVD performs an error plan that
keeps `upper_len`. -/
theorem reservedSetupControlAnswersZero : Obligations.ReservedSetupControlAnswersZero := by
  unfold Obligations.ReservedSetupControlAnswersZero
  intro c p s
  constructor
  · intro h0 h1 h4 h5
    exact (decode_formatCP_setup c p).trans (decodeSetup_of_reserved h0 h1 h4 h5 p)
  · have hcode : DiagCode.badControl ≠ .none := by decide
    calc exec (.setupRsvd c p) s
        = .next (s.perform ⟨s.upperLen, .immediate statusError .badControl⟩) := exec_eq_perform _ s
      _ = .next (s.afterError .badControl) := by rw [State.perform_error hcode]

end Sys2Proof.Machine
end

section
/-! PROOF. 42_receiver_test.md: what the words of opcode 01 decode to, and what serving and answering them does. -/

namespace Sys2Proof

/-- R67, arm 0b01: a word of opcode 01 is a Receiver Test on its channel, whatever its ignored bits. -/
theorem decode_formatRX (ch : BitVec 6) (ign : Byte) : decode (formatRX ch ign) = .rxtest ch ign := by
  simp [decode]

end Sys2Proof

namespace Sys2Proof.Machine

theorem statusSuccess_zero : statusSuccess 0 = 0x0001#16 := by decide

/-- R72, R85: a Receiver Test is answered by the executor's Result alone. -/
theorem encodeAnswer_startRx (ans : Answer) :
    encodeAnswer .startRx ans = if ans.ok then (0x0001#16, .none) else (0x0000#16, .execFail) := by
  rw [encodeAnswer, statusSuccess_zero, okOrFail, statusError]

/-- Settles O21: RXTEST performs a calling plan that keeps `upper_len`, and the plan does not read the ignored bits. -/
theorem rxTestCallsStartRx : Obligations.RxTestCallsStartRx := by
  unfold Obligations.RxTestCallsStartRx
  intro ch ign s
  refine ⟨decode_formatRX ch ign, ?_, encodeAnswer_startRx⟩
  calc exec (.rxtest ch ign) s
      = .next (s.perform ⟨s.upperLen, .call ⟨.startRx, ch, 0, 0, .txOctets⟩⟩) := exec_eq_perform _ s
    _ = .next (s.afterCall ⟨.startRx, ch, 0, 0, .txOctets⟩) := by rw [State.perform_call_keep]

end Sys2Proof.Machine
end

section
/-! PROOF. 43_transmitter_test.md: what the words of opcode 10 decode to, and what serving and answering them does. -/

namespace Sys2Proof

/-- R67, arm 0b10: a word of opcode 10 is a Transmitter Test with its channel, length and packet type. -/
theorem decode_formatTX (ch len : BitVec 6) (pkt : BitVec 2) : decode (formatTX ch len pkt) = .txtest ch len pkt := by
  simp [decode]

end Sys2Proof

namespace Sys2Proof.Machine

/-- R13, R88: a command that only latches a request keeps `upper_len`. -/
@[simp] theorem State.afterCall_upperLen (r : Request) (s : State) : (s.afterCall r).upperLen = s.upperLen := rfl

/-- R72, R86: a Transmitter Test is answered by the executor's Result alone. -/
theorem encodeAnswer_startTx (ans : Answer) :
    encodeAnswer .startTx ans = if ans.ok then (0x0001#16, .none) else (0x0000#16, .execFail) := by
  rw [encodeAnswer, statusSuccess_zero, okOrFail, statusError]

/-- Settles O22: TXTEST performs a calling plan that reads `upper_len` into the effective length and keeps it. -/
theorem txTestCallsStartTxWithUpperBits : Obligations.TxTestCallsStartTxWithUpperBits := by
  unfold Obligations.TxTestCallsStartTxWithUpperBits
  intro ch len pkt s
  refine ⟨decode_formatTX ch len pkt, ?_, State.afterCall_upperLen _ s, encodeAnswer_startTx⟩
  calc exec (.txtest ch len pkt) s
      = .next (s.perform ⟨s.upperLen, .call ⟨.startTx, ch, effLength len s.upperLen, pkt, .txOctets⟩⟩) :=
        exec_eq_perform _ s
    _ = .next (s.afterCall ⟨.startTx, ch, effLength len s.upperLen, pkt, .txOctets⟩) := by
        rw [State.perform_call_keep]

end Sys2Proof.Machine
end

section
/-! PROOF. R102: every word the framer forms gets exactly one response on the wire. The idea: the bytes written to the
wire, with the two of a response still owed, are a count that a cycle raises by 2 if it forms a word from the wire and
keeps otherwise. Waits, auxiliary words and dropped bytes leave both parts alone; a completion pays what was owed. -/

namespace Sys2Proof.Machine

/-- The bytes on the wire, with the two of a response still owed counted in. -/
def State.wireBytes (s : State) : Nat := s.tx.length + 2 * s.owedToWire

/-! ### The count under the shared operations -/

/-- R18: what is owed stands in `busy` and `src_reg`, so a state that agrees on these and on the TX stream has the same
count. -/
theorem State.wireBytes_congr {s t : State} (htx : t.tx = s.tx) (hbusy : t.busy = s.busy)
    (hsrc : t.srcReg = s.srcReg) : t.wireBytes = s.wireBytes := by
  rw [State.wireBytes, State.wireBytes, State.owedToWire, State.owedToWire, htx, hbusy, hsrc]

@[simp] theorem State.between_wireBytes (s : State) : s.between.wireBytes = s.wireBytes :=
  State.wireBytes_congr s.between_tx s.between_busy s.between_srcReg

theorem State.wireBytes_of_not_busy {s : State} (h : s.busy = false) : s.wireBytes = s.tx.length := by
  simp [State.wireBytes, State.owedToWire, h]

/-- R68: a response puts two bytes on the wire for a framer command and none for an auxiliary one. -/
theorem State.respond_tx_length (src : Source) (resp : Word) (s : State) :
    (s.respond src resp).tx.length = s.tx.length + if src = .framer then 2 else 0 := by
  cases src <;> simp [State.respond]

/-- R71: a completion writes the response that was owed. -/
theorem State.complete_wireBytes {s : State} (h : s.busy = true) : s.complete.wireBytes = s.wireBytes := by
  rw [State.wireBytes_of_not_busy s.complete_busy]
  cases hsrc : s.srcReg <;>
    simp [State.complete, State.respond_tx_length, State.wireBytes, State.owedToWire, h, hsrc]

/-- R69: serving a framer command writes one response or owes one; serving an auxiliary command does neither. -/
theorem State.perform_wireBytes {s : State} (h : s.busy = false) (p : Plan) :
    (s.perform p).wireBytes = s.wireBytes + if s.source = .framer then 2 else 0 := by
  rw [State.wireBytes_of_not_busy h]
  obtain ⟨r, -, hp⟩ | ⟨resp, code, -, hp⟩ := s.perform_cases p
  · cases hsrc : s.source <;> simp [hp, State.wireBytes, State.owedToWire, hsrc]
  · rw [hp, State.wireBytes_of_not_busy (by simp [h])]
    simp [State.respond_tx_length]

/-! ### A poll writes nothing and owes nothing -/

/-- The state a cycle has reached when it is over or hands over a word. -/
def Fetched.state : Fetched → State
  | .done t => t
  | .serve _ t => t

/-- R91: a poll touches only the framer's registers, the RX FIFO and the outputs. -/
theorem State.poll_frame (s : State) :
    s.poll.state.tx = s.tx ∧ s.poll.state.busy = s.busy ∧ s.poll.state.srcReg = s.srcReg ∧
    s.poll.state.par = s.par ∧ s.poll.state.pins = s.pins := by
  obtain ⟨-, -, h⟩ | ⟨-, -, h⟩ | ⟨-, -, h⟩ | ⟨-, -, h⟩ | ⟨-, -, -, h⟩ | ⟨-, -, -, h⟩ := s.poll_cases <;>
    simp [h, Fetched.state]

theorem State.poll_wireBytes (s : State) : s.poll.state.wireBytes = s.wireBytes := by
  obtain ⟨htx, hbusy, hsrc, -, -⟩ := s.poll_frame
  exact State.wireBytes_congr htx hbusy hsrc

theorem State.poll_source (s : State) : s.poll.state.source = s.source := by
  obtain ⟨-, -, -, hpar, hpins⟩ := s.poll_frame
  rw [State.source, State.source, State.auxOffered, State.auxOffered, hpar, hpins]

/-! ### The count over a cycle and over a run -/

theorem State.formsFramerWord_of_done {s t : State} (h : s.fetch = .done t) : s.formsFramerWord = false := by
  simp [State.formsFramerWord, State.served_of_done h]

theorem State.formsFramerWord_of_serve {s t : State} {w : Word} (h : s.fetch = .serve w t) :
    s.formsFramerWord = !s.auxOffered := by
  simp [State.formsFramerWord, State.served_of_serve h]

/-- A cycle that serves nothing keeps the count if its own operations do. -/
theorem step_wireBytes_of_done {s t : State} (h : s.fetch = .done t) (ht : t.wireBytes = s.wireBytes) :
    ∃ u, step s = .next u ∧ u.wireBytes = s.wireBytes + 2 * if s.formsFramerWord then 1 else 0 :=
  ⟨_, step_done h, by simp [State.formsFramerWord_of_done h, ht]⟩

/-- A cycle that serves a word adds 2 to the count if the word is the framer's. -/
theorem step_wireBytes_of_serve {s t : State} {w : Word} (h : s.fetch = .serve w t) (hbusy : t.busy = false)
    (ht : t.wireBytes = s.wireBytes) (hsource : t.source = s.source) :
    ∃ u, step s = .next u ∧ u.wireBytes = s.wireBytes + 2 * if s.formsFramerWord then 1 else 0 := by
  refine ⟨_, step_serve h, ?_⟩
  rw [State.between_wireBytes, State.perform_wireBytes hbusy, ht, hsource, State.source,
    State.formsFramerWord_of_serve h]
  cases s.auxOffered <;> rfl

/-- R102 for one cycle. -/
theorem step_wireBytes {s : State} (hrst : s.pins.rst = false) :
    ∃ t, step s = .next t ∧ t.wireBytes = s.wireBytes + 2 * if s.formsFramerWord then 1 else 0 := by
  obtain ⟨hrst', -⟩ | ⟨-, hbusy, -, hf⟩ | ⟨-, -, -, hf⟩ | ⟨-, hbusy, -, hf⟩ | ⟨-, hbusy, -, hf⟩ := s.fetch_cases
  · rw [hrst] at hrst'; cases hrst'
  · exact step_wireBytes_of_done hf (State.complete_wireBytes (s := s.clearOutputs) hbusy)
  · exact step_wireBytes_of_done hf rfl
  · exact step_wireBytes_of_serve hf hbusy rfl rfl
  · have hbytes := s.clearOutputs.poll_wireBytes
    have hsource := s.clearOutputs.poll_source
    obtain ⟨-, hpoll, -⟩ := s.clearOutputs.poll_frame
    rw [← hf] at hbytes hsource hpoll
    cases hp : s.fetch with
    | done t => rw [hp] at hbytes; exact step_wireBytes_of_done hp hbytes
    | serve w t =>
      rw [hp] at hbytes hsource hpoll
      exact step_wireBytes_of_serve hp (hpoll.trans hbusy) hbytes hsource

/-- The words of a run are the first cycle's and the rest's. -/
theorem framerWords_succ {s t : State} (n : Nat) (h : step s = .next t) :
    framerWords (n + 1) s = (if s.formsFramerWord then 1 else 0) + framerWords n t := by
  simp [framerWords, h]

/-- Settles O46: by induction on the number of cycles, each of which adds 2 bytes for a word it forms. -/
theorem everyFramerWordGetsExactlyOneResponse : Obligations.EveryFramerWordGetsExactlyOneResponse := by
  unfold Obligations.EveryFramerWordGetsExactlyOneResponse
  intro n
  induction n with
  | zero => intro s _; exact ⟨s, rfl, rfl⟩
  | succ n ih =>
    intro s hrst
    obtain ⟨t, hstep, hcount⟩ := step_wireBytes (hrst 0 s n.succ_pos rfl)
    obtain ⟨u, hrun, hrest⟩ := ih t fun k u hk hu =>
      hrst (k + 1) u (Nat.succ_lt_succ hk) ((run_succ k hstep).trans hu)
    refine ⟨u, (run_succ n hstep).trans hrun, ?_⟩
    rw [framerWords_succ n hstep]
    unfold State.wireBytes at hcount
    omega

end Sys2Proof.Machine
end

section
/-! PROOF. 45_framer.md R93, R95, R96, R98: what a polling cycle does for each state of the framer and each filling of
the RX FIFO. -/

namespace Sys2Proof.Machine

/-! ### A poll by the bytes it finds -/

/-- R93: an idle poll that finds two or more bytes. -/
theorem State.poll_idle_of_two {s : State} {b0 b1 : Byte} {rest : List Byte} (hfr : s.fr = .idle)
    (hrx : s.rx = b0 :: b1 :: rest) : s.poll = .serve (b0 ++ b1) (s.popRx 2) := by
  simp [State.poll, hfr, State.rxCount, State.rxPeek, hrx, joinBytes]

/-- R95: an idle poll that finds no byte. -/
theorem State.poll_idle_of_nil {s : State} (hfr : s.fr = .idle) (hrx : s.rx = []) : s.poll = .done s := by
  simp [State.poll, hfr, State.rxCount, hrx]

/-- R96: an AWAIT poll that finds one or more bytes. -/
theorem State.poll_await_of_cons {s : State} {b : Byte} {rest : List Byte} (hfr : s.fr = .await)
    (hrx : s.rx = b :: rest) : s.poll = .serve (s.hi ++ b) (s.popRx 1).toIdle := by
  simp [State.poll, hfr, State.rxCount, State.rxPeek, hrx, joinBytes]

/-- R98: an AWAIT poll that finds no byte and no timeout. -/
theorem State.poll_await_of_nil {s : State} (hfr : s.fr = .await) (hrx : s.rx = []) (ht : s.elapsed ≤ 5) :
    s.poll = .done s := by
  have hno : ¬ Config.timeoutUnits < s.elapsed := not_lt.mpr ht
  simp [State.poll, hfr, State.rxCount, hrx, hno]

/-! ### The cycle that polls -/

/-- R25: without reset, outstanding request or offered auxiliary word, the cycle polls. -/
theorem State.fetch_eq_poll {s : State} (hrst : s.pins.rst = false) (hbusy : s.busy = false)
    (haux : ¬ (s.par.auxPresent = true ∧ s.pins.auxValid = true)) : s.fetch = s.clearOutputs.poll := by
  have hoff : s.auxOffered = false := by simpa [State.auxOffered] using haux
  simp [State.fetch, hrst, hbusy, hoff]

/-- R69: a step that forms or takes a word executes its instruction. -/
theorem step_exec {s t : State} {w : Word} (h : s.fetch = .serve w t) :
    step s = afterCycle (exec (decode w) t) := by
  simp [step, h]

/-- Settles O29: the poll serves the first two bytes and pops them. -/
theorem fastPathServesTwoBytes : Obligations.FastPathServesTwoBytes := by
  unfold Obligations.FastPathServesTwoBytes
  intro s b0 b1 rest hrst hbusy haux hfr hrx
  have hf := (State.fetch_eq_poll hrst hbusy haux).trans (State.poll_idle_of_two (s := s.clearOutputs) hfr hrx)
  rw [step_exec hf]
  simp [State.popRx, State.clearOutputs, hrx]

/-- Settles O31: the poll leaves the state with its outputs cleared. -/
theorem idlePollOfEmptyFifoYields : Obligations.IdlePollOfEmptyFifoYields := by
  unfold Obligations.IdlePollOfEmptyFifoYields
  intro s hrst hbusy haux hfr hrx
  exact step_done ((State.fetch_eq_poll hrst hbusy haux).trans
    (State.poll_idle_of_nil (s := s.clearOutputs) hfr hrx))

/-- Settles O32: the poll serves the held byte with the first one found, and does not look at the time. -/
theorem awaitPollCompletesTheWord : Obligations.AwaitPollCompletesTheWord := by
  unfold Obligations.AwaitPollCompletesTheWord
  intro s b rest hrst hbusy haux hfr hrx
  have hf := (State.fetch_eq_poll hrst hbusy haux).trans (State.poll_await_of_cons (s := s.clearOutputs) hfr hrx)
  rw [step_exec hf]
  simp [State.popRx, State.toIdle, State.clearOutputs, hrx]

/-- Settles O34: the poll leaves the state with its outputs cleared. -/
theorem awaitPollWithinTheTimeoutYields : Obligations.AwaitPollWithinTheTimeoutYields := by
  unfold Obligations.AwaitPollWithinTheTimeoutYields
  intro s hrst hbusy haux hfr hrx ht
  exact step_done ((State.fetch_eq_poll hrst hbusy haux).trans
    (State.poll_await_of_nil (s := s.clearOutputs) hfr hrx ht))

end Sys2Proof.Machine
end

section
/-! PROOF. 60_exceptions.md R108: what an executor failure answers and what it leaves as it is. -/

namespace Sys2Proof.Machine

/-- R72, R108: a failed Result answers the error word with EXEC_FAIL, for every operation that has a Result. -/
theorem encodeAnswer_of_failed {op : ExecOp} {ans : Answer} (hop : op ≠ .readFeatures) (hok : ans.ok = false) :
    encodeAnswer op ans = (0x0000#16, .execFail) := by
  cases op with
  | readFeatures => exact absurd rfl hop
  | reset | readMax | startRx | startTx | endTest => simp [encodeAnswer, okOrFail, statusError, hok]

/-- R60, R62: a success status word is one, as long as its payload leaves the event bit 0. -/
theorem isSuccess_statusSuccess {payload : Word} (h : payload.getLsbD 15 = false) : isSuccess (statusSuccess payload) := by
  constructor
  · rw [statusSuccess, BitVec.getLsbD_or, h]; rfl
  · rw [statusSuccess, BitVec.getLsbD_or]; rfl

/-- R63: the nine feature flags do not reach the event bit. -/
theorem featureMask_getLsbD_eventBit (f : BitVec 9) : (featureMask f).getLsbD 15 = false := by
  simp [featureMask]

/-- Settles O15: the failing operations share `okOrFail`, READ_FEATURES does not look at the Result, SETUP.RESET plans
the clear of `upper_len` with its request, and a completion writes no register but `busy`. -/
theorem executorFailureAnswersZero : Obligations.ExecutorFailureAnswersZero := by
  unfold Obligations.ExecutorFailureAnswersZero
  refine ⟨fun op ans => encodeAnswer_of_failed, fun ans => ⟨?_, rfl⟩, fun p s => ?_, State.complete_upperLen⟩
  · exact isSuccess_statusSuccess (featureMask_getLsbD_eventBit ans.features)
  · exact ⟨_, exec_eq_perform (.setupReset p) s, rfl, rfl⟩

end Sys2Proof.Machine
end

section
/-! PROOF. 60_exceptions.md R107: the decode errors. The idea: a well-formed instruction's constructor alone says whether
its plan is an error and with which code, and the constructor is read off the fields of the instruction's word. -/

namespace Sys2Proof.Machine

/-! ### The diagnostic code of a plan -/

/-- The code that performing the plan pulses; `none` when it pulses nothing. -/
def Plan.code (p : Plan) : DiagCode :=
  match p.action with
  | .immediate _ code => code
  | .call _ => .none

@[simp] theorem State.respond_out_diagValid (src : Source) (resp : Word) (s : State) :
    (s.respond src resp).out.diagValid = s.out.diagValid := by cases src <;> rfl
@[simp] theorem State.respond_out_diagCode (src : Source) (resp : Word) (s : State) :
    (s.respond src resp).out.diagCode = s.out.diagCode := by cases src <;> rfl

/-- R69: performing a plan is, for the diagnostic port, pulsing the plan's code. -/
theorem State.perform_diagPort (p : Plan) (s : State) :
    (s.perform p).out.diagValid = (s.diag p.code).out.diagValid ∧
    (s.perform p).out.diagCode = (s.diag p.code).out.diagCode := by
  obtain ⟨ul, a⟩ := p
  cases a with
  | call r => exact ⟨rfl, rfl⟩
  | immediate resp code =>
    cases code <;> simp [State.perform_immediate, Plan.code, State.diag]

/-! ### The plans whose parameter is checked -/

/-- R59, R83: a Read Max parameter up to 0x10 has a class, so the executor is asked. -/
theorem planReadMax_code_of_le {p : Byte} (h : p ≤ 0x10#8) (ul : Byte) : (planReadMax p ul).code = .none := by
  have hclass : ∃ k, classOf p = some k := by
    by_cases hlow : p ≤ 0x0F#8
    · exact ⟨_, if_pos hlow⟩
    · have hp : p = 0x10#8 := by bv_omega
      exact ⟨.cteLength, by rw [hp]; rfl⟩
  obtain ⟨k, hk⟩ := hclass
  simp [planReadMax, hk, Plan.code]

/-- R59, R83: a Read Max parameter above 0x10 has no class. -/
theorem planReadMax_of_gt {p : Byte} (h : 0x10#8 < p) (ul : Byte) :
    planReadMax p ul = ⟨ul, .immediate statusError .badParam⟩ := by
  have hlow : ¬ p ≤ 0x0F#8 := by bv_omega
  have hne : p ≠ 0x10#8 := by bv_omega
  simp [planReadMax, classOf, hlow, hne]

/-- R89: a Test End with a control other than 0. -/
theorem planTestEnd_of_control {c : BitVec 6} (h : c ≠ 0x00#6) (p ul : Byte) :
    planTestEnd c p ul = ⟨ul, .immediate statusError .badControl⟩ := if_pos h

/-- R89: a Test End with control 0 and a parameter above 0x0A. -/
theorem planTestEnd_of_gt {p : Byte} (h : 0x0A#8 < p) (ul : Byte) :
    planTestEnd 0x00#6 p ul = ⟨ul, .immediate statusError .badParam⟩ := by
  simp [planTestEnd, h]

/-- R89: a Test End with control 0 and a parameter up to 0x0A asks the executor. -/
theorem planTestEnd_code_of_le {p : Byte} (h : p ≤ 0x0A#8) (ul : Byte) : (planTestEnd 0x00#6 p ul).code = .none := by
  simp [planTestEnd, BitVec.not_lt.mpr h, Plan.code]

end Sys2Proof.Machine

namespace Sys2Proof

open Machine

/-! ### The error of an instruction -/

/-- R107: the diagnostic code of the decode error that an instruction is; `none` when it is none. -/
def Instr.errorCode : Instr → DiagCode
  | .setupRsvd _ _ | .testendBadctrl _ _ => .badControl
  | .setupMaxBadparam _ | .testendBadparam _ => .badParam
  | .setupReset _ | .setupUpper _ | .setupFeat _ | .setupMax _ | .rxtest _ _ | .txtest _ _ _ | .testend _ => .none

/-- R107: a decode error plans the error word with its code, and neither a request nor a write of `upper_len`. -/
theorem planOf_of_errorCode {i : Instr} (hwf : i.wf = true) (he : i.errorCode ≠ .none) (ul : Byte) :
    planOf i ul = ⟨ul, .immediate statusError i.errorCode⟩ := by
  cases i with
  | setupRsvd c p => rfl
  | testendBadctrl c p => exact planTestEnd_of_control (by simpa [Instr.wf] using hwf) p ul
  | setupMaxBadparam p => exact planReadMax_of_gt (by simpa [Instr.wf] using hwf) ul
  | testendBadparam p => exact planTestEnd_of_gt (by simpa [Instr.wf] using hwf) ul
  | _ => exact absurd rfl he

/-- R107: no other instruction plans a diagnostic pulse. -/
theorem planOf_code {i : Instr} (hwf : i.wf = true) (ul : Byte) : (planOf i ul).code = i.errorCode := by
  by_cases he : i.errorCode = .none
  · cases i with
    | setupMax p => exact planReadMax_code_of_le (by simpa [Instr.wf] using hwf) ul
    | testend p => exact planTestEnd_code_of_le (by simpa [Instr.wf] using hwf) ul
    | setupReset p | setupUpper p | setupFeat p | rxtest ch ign | txtest ch len pkt => rfl
    | _ => cases he
  · rw [planOf_of_errorCode hwf he]; rfl

/-- R107, R68: serving a decode error. -/
theorem exec_of_errorCode {i : Instr} {code : DiagCode} (hwf : i.wf = true) (hi : i.errorCode = code)
    (hcode : code ≠ .none) (s : State) : exec i s = .next (s.afterError code) := by
  subst hi
  rw [exec_eq_perform, planOf_of_errorCode hwf hcode, State.perform_error hcode]

/-- R107: serving anything else leaves the diagnostic port as it is. -/
theorem exec_of_errorCode_none {i : Instr} (hwf : i.wf = true) (hi : i.errorCode = .none) (s : State) :
    ∃ t, exec i s = .next t ∧ t.out.diagValid = s.out.diagValid ∧ t.out.diagCode = s.out.diagCode := by
  refine ⟨_, exec_eq_perform i s, ?_⟩
  have hport := s.perform_diagPort (planOf i s.upperLen)
  rwa [planOf_code hwf, hi, State.diag_none] at hport

/-! ### The decode errors by the number of the word -/

/-- R84, R89: opcode `o` and control `c` are listed as BAD_CONTROL. -/
abbrev ListedBadControl (o c : Nat) : Prop :=
  (o = 0 ∧ c ≠ 0x00 ∧ c ≠ 0x01 ∧ c ≠ 0x04 ∧ c ≠ 0x05) ∨ (o = 3 ∧ c ≠ 0)

/-- R83, R89: opcode `o`, control `c` and parameter `p` are listed as BAD_PARAM. -/
abbrev ListedBadParam (o c p : Nat) : Prop :=
  (o = 0 ∧ c = 0x05 ∧ 0x10 < p) ∨ (o = 3 ∧ c = 0 ∧ 0x0A < p)

/-- R107: the code of an instruction by the fields of its word. -/
theorem errorCode_eq_of_encode {i : Instr} (hwf : i.wf = true) {o c p : Nat} (ho : o = (encode i).toNat / 0x4000)
    (hc : c = (encode i).toNat / 0x100 % 0x40) (hp : p = (encode i).toNat % 0x100) :
    i.errorCode = if ListedBadControl o c then .badControl else if ListedBadParam o c p then .badParam else .none := by
  cases i with
  | setupRsvd ctl par | testendBadctrl ctl par =>
    simp [Instr.wf, ← BitVec.toNat_inj] at hwf
    simp [encode, formatCP_toNat] at ho hc hp
    have hlisted : ListedBadControl o c := by omega
    rw [if_pos hlisted]; rfl
  | setupMaxBadparam par | testendBadparam par =>
    simp [Instr.wf, BitVec.lt_def] at hwf
    simp [encode, formatCP_toNat] at ho hc hp
    have hctl : ¬ ListedBadControl o c := by omega
    have hlisted : ListedBadParam o c p := by omega
    rw [if_neg hctl, if_pos hlisted]; rfl
  | setupReset par | setupUpper par | setupFeat par | setupMax par | testend par | rxtest ch ign | txtest ch len pkt =>
    simp [Instr.wf, BitVec.le_def] at hwf
    simp [encode, formatCP_toNat, formatRX_toNat, formatTX_toNat] at ho hc hp
    have hctl : ¬ ListedBadControl o c := by omega
    have hpar : ¬ ListedBadParam o c p := by omega
    rw [if_neg hctl, if_neg hpar]; rfl

end Sys2Proof

namespace Sys2Proof.Machine

/-- Settles O42: a word is the encoding of the instruction it decodes to, whose constructor is the error that the word's
fields are listed as. -/
theorem decodeErrorsAreExactlyTheListedWords : Obligations.DecodeErrorsAreExactlyTheListedWords := by
  unfold Obligations.DecodeErrorsAreExactlyTheListedWords
  intro w s o c p ho hc hp
  have hwf := decode_wf w
  rw [← encode_decode w] at ho hc hp
  have hcode := errorCode_eq_of_encode hwf ho hc hp
  refine ⟨fun hctl => ?_, fun hpar => ?_, fun hctl hpar => ?_⟩
  · exact exec_of_errorCode hwf (by rw [hcode, if_pos hctl]) (by decide) s
  · have hctl : ¬ ListedBadControl o c := by omega
    exact exec_of_errorCode hwf (by rw [hcode, if_neg hctl, if_pos hpar]) (by decide) s
  · exact exec_of_errorCode_none hwf (by rw [hcode, if_neg hctl, if_neg hpar]) s

end Sys2Proof.Machine
end

section
/-! PROOF. 60_exceptions.md R109: the DESYNC pulse. The idea: a cycle starts with its outputs cleared and pulses at most
one code, and of the things a cycle can do only the timeout's drop pulses DESYNC. -/

namespace Sys2Proof.Machine

theorem State.diag_out_diagCode (code : DiagCode) (s : State) :
    (s.diag code).out.diagCode = if code = .none then s.out.diagCode else code := by cases code <;> rfl

/-- A pulse of another code leaves no DESYNC where none stood. -/
theorem State.diag_ne_desync {code : DiagCode} {s : State} (hcode : code ≠ .desync) (hs : s.out.diagCode ≠ .desync) :
    (s.diag code).out.diagCode ≠ .desync := by
  rw [State.diag_out_diagCode]
  split_ifs
  · exact hs
  · exact hcode

/-! ### Completing and serving pulse no DESYNC -/

theorem okOrFail_code_ne_desync (ok : Bool) (r : Word) : (okOrFail ok r).2 ≠ .desync := by
  cases ok <;> simp [okOrFail]

/-- R72: an answer pulses no DESYNC. -/
theorem encodeAnswer_code_ne_desync (op : ExecOp) (ans : Answer) : (encodeAnswer op ans).2 ≠ .desync := by
  cases op with
  | readFeatures => simp [encodeAnswer]
  | reset | readMax | startRx | startTx | endTest => exact okOrFail_code_ne_desync _ _

theorem State.complete_ne_desync {s : State} (hs : s.out.diagCode ≠ .desync) :
    s.complete.out.diagCode ≠ .desync := by
  rw [State.complete, State.release_out]
  exact State.diag_ne_desync (encodeAnswer_code_ne_desync _ _) (by rwa [State.respond_out_diagCode])

/-- R107: a decoded word's plan pulses no DESYNC. -/
theorem planOf_decode_code_ne_desync (w : Word) (ul : Byte) : (planOf (decode w) ul).code ≠ .desync := by
  rw [planOf_code (decode_wf w)]
  cases decode w <;> simp [Instr.errorCode]

/-! ### The timeout's drop -/

/-- R97: of the six cases of a poll, the timeout's drop alone drives DESYNC. -/
theorem State.poll_of_desync {s : State} (hs : s.out.diagCode ≠ .desync)
    (hd : s.poll.state.out.diagCode = .desync) :
    s.fr = .await ∧ s.rxCount = 0 ∧ 5 < s.elapsed ∧ s.poll = .done (s.toIdle.diag .desync) := by
  obtain ⟨-, -, h⟩ | ⟨-, -, h⟩ | ⟨-, -, h⟩ | ⟨-, -, h⟩ | ⟨hfr, hcount, ht, h⟩ | ⟨-, -, -, h⟩ := s.poll_cases <;>
    rw [h] at hd
  · exact absurd hd hs
  · exact absurd hd hs
  · exact absurd hd hs
  · exact absurd hd hs
  · exact ⟨hfr, hcount, ht, h⟩
  · exact absurd hd hs

/-- R97, R109: a cycle that drives DESYNC before it serves a command is a poll that drops the high byte. -/
theorem State.fetch_of_desync {s : State} (hd : s.fetch.state.out.diagCode = .desync) :
    s.fr = .await ∧ s.rx = [] ∧ 5 < s.elapsed ∧ s.fetch = .done (s.clearOutputs.toIdle.diag .desync) := by
  have hidle : s.clearOutputs.out.diagCode ≠ .desync := by simp [Outputs.idle]
  obtain ⟨-, hf⟩ | ⟨-, -, -, hf⟩ | ⟨-, -, -, hf⟩ | ⟨-, -, -, hf⟩ | ⟨-, -, -, hf⟩ := s.fetch_cases <;> rw [hf] at hd
  · exact absurd hd hidle
  · exact absurd hd (State.complete_ne_desync hidle)
  · exact absurd hd hidle
  · exact absurd hd hidle
  · obtain ⟨hfr, hcount, ht, hpoll⟩ := State.poll_of_desync hidle hd
    have hrx : s.rx = [] := by simpa [State.rxCount] using hcount
    exact ⟨hfr, hrx, ht, hf.trans hpoll⟩

/-- Settles O43: a served command adds no DESYNC, so the cycle is over before one, and it is the timeout's drop. -/
theorem desyncChangesOnlyTheFramerState : Obligations.DesyncChangesOnlyTheFramerState := by
  unfold Obligations.DesyncChangesOnlyTheFramerState
  intro s t hstep hd
  have hfetch : s.fetch.state.out.diagCode = .desync := by
    cases h : s.fetch with
    | done t' =>
      rw [step_done h] at hstep
      injection hstep with ht
      rwa [← ht, State.between_out] at hd
    | serve w t' =>
      rw [step_serve h] at hstep
      injection hstep with ht
      obtain ⟨-, hcode⟩ := t'.perform_diagPort (planOf (decode w) t'.upperLen)
      rw [← ht, State.between_out, hcode] at hd
      by_contra hno
      exact State.diag_ne_desync (planOf_decode_code_ne_desync w _) hno hd
  obtain ⟨hfr, hrx, ht, hdrop⟩ := State.fetch_of_desync hfetch
  rw [step_done hdrop] at hstep
  injection hstep with hstep
  exact ⟨State.served_of_done hdrop, hfr, hrx, ht, hstep.symm⟩

end Sys2Proof.Machine
end

section
/-! PROOF. R134: `upper_len` persists until it is rewritten. The idea: a cycle that does not write the register keeps it,
so a run of such cycles does, and a Transmitter Test served after the run reads the value that stood before it. -/

namespace Sys2Proof.Machine

/-- A run that answers consists of a first step that answers and the run from there. -/
theorem step_of_run_succ {n : Nat} {s t : State} (h : run (n + 1) s = .next t) :
    ∃ u, step s = .next u ∧ run n u = .next t := by
  cases hstep : step s with
  | next u => exact ⟨u, rfl, (run_succ n hstep).symm.trans h⟩
  | fault f | refused r => simp [run, hstep] at h

theorem State.rst_of_not_writesUpper {s : State} (hw : s.writesUpper = false) : s.pins.rst = false := by
  by_contra hrst
  rw [State.writesUpper_of_rst (eq_true_of_ne_false hrst)] at hw
  cases hw

/-- R13: a cycle that is no reset and serves neither SETUP.RESET nor SETUP.UPPER keeps `upper_len`. -/
theorem step_upperLen_of_not_writesUpper {s t : State} (hw : s.writesUpper = false) (ht : step s = .next t) :
    t.upperLen = s.upperLen := by
  have hrst := State.rst_of_not_writesUpper hw
  cases h : s.fetch with
  | done t' => exact step_done_upperLen hrst h ht
  | serve w t' =>
    rw [step_serve_upperLen h ht,
      planOf_upperNext_eq_ite_writesUpper hrst (State.served_of_serve h) s.upperLen s.upperLen, hw]
    rfl

/-- R134: a run of cycles that do not write `upper_len` keeps it. -/
theorem run_upperLen_of_not_writesUpper {n : Nat} {s t : State} (hrun : run n s = .next t)
    (hw : ∀ k u, k < n → run k s = .next u → u.writesUpper = false) : t.upperLen = s.upperLen := by
  induction n generalizing s with
  | zero => cases hrun; rfl
  | succ n ih =>
    obtain ⟨u, hstep, hrest⟩ := step_of_run_succ hrun
    have hwrest : ∀ k v, k < n → run k u = .next v → v.writesUpper = false := fun k v hk hv =>
      hw (k + 1) v (Nat.succ_lt_succ hk) ((run_succ k hstep).trans hv)
    calc t.upperLen = u.upperLen := ih hrest hwrest
      _ = s.upperLen := step_upperLen_of_not_writesUpper (hw 0 s n.succ_pos rfl) hstep

/-- Settles O55: the run keeps `upper_len`, and the request of a TXTEST served after it ORs that value in (O22). -/
theorem upperLenPersistsUntilRewritten : Obligations.UpperLenPersistsUntilRewritten := by
  unfold Obligations.UpperLenPersistsUntilRewritten
  intro n s t hrun hw
  have hkept := run_upperLen_of_not_writesUpper hrun hw
  refine ⟨hkept, fun ch len pkt => ?_⟩
  obtain ⟨-, hexec, -, -⟩ := txTestCallsStartTxWithUpperBits ch len pkt t
  exact ⟨_, hexec, by rw [← hkept]; rfl⟩

end Sys2Proof.Machine
end

section
/-! PROOF. 30_encoding.md: decoding is the inverse of encoding on the well-formed instructions, and the command that a
number from 0x0000 to 0xFFFF is. The idea: `decode` reads the fields of a format, and the operand ranges of a
well-formed instruction pick its arm. -/

namespace Sys2Proof

/-! ### The decoder on the words of opcode 11 and on bytes -/

/-- R67, arm 0b11: a word of opcode 11 is decoded by its control and parameter. -/
theorem decode_formatCP_testEnd (c : BitVec 6) (p : Byte) : decode (formatCP 0b11#2 c p) = decodeTestEnd c p := by
  simp [decode]

/-- R33, R47: the decoder of bytes reads a word laid out in wire order and leaves the bytes after it. -/
theorem decodeBytes_wordBytes_append (w : Word) (rest : List Byte) :
    decodeBytes (wordBytes w ++ rest) = .ok (decode w, rest) := by
  simp [wordBytes, decodeBytes]

/-! ### Decode of encode -/

/-- R67: the operands of a well-formed instruction pick its own arm of the decoder. -/
theorem decode_encode {i : Instr} (h : i.wf = true) : decode (encode i) = i := by
  cases i with
  | setupReset p | setupUpper p | setupFeat p => exact decode_formatCP_setup _ p
  | setupMax p =>
    have hp : p ≤ 0x10#8 := by simpa [Instr.wf] using h
    exact (decode_formatCP_setup 0x05#6 p).trans (if_pos hp)
  | setupMaxBadparam p =>
    have hp : ¬ p ≤ 0x10#8 := by simpa [Instr.wf] using h
    exact (decode_formatCP_setup 0x05#6 p).trans (if_neg hp)
  | setupRsvd c p =>
    obtain ⟨⟨⟨h0, h1⟩, h4⟩, h5⟩ : ((c ≠ 0x00#6 ∧ c ≠ 0x01#6) ∧ c ≠ 0x04#6) ∧ c ≠ 0x05#6 := by
      simpa [Instr.wf] using h
    exact (decode_formatCP_setup c p).trans (decodeSetup_of_reserved h0 h1 h4 h5 p)
  | rxtest ch ign => exact decode_formatRX ch ign
  | txtest ch len pkt => exact decode_formatTX ch len pkt
  | testend p =>
    have hp : p ≤ 0x0A#8 := by simpa [Instr.wf] using h
    exact (decode_formatCP_testEnd 0x00#6 p).trans (if_pos hp)
  | testendBadparam p =>
    have hp : ¬ p ≤ 0x0A#8 := by simpa [Instr.wf] using h
    exact (decode_formatCP_testEnd 0x00#6 p).trans (if_neg hp)
  | testendBadctrl c p =>
    have hc : c ≠ 0x00#6 := by simpa [Instr.wf] using h
    exact (decode_formatCP_testEnd c p).trans (if_pos hc)

/-- Settles O1: the operand ranges of a well-formed instruction pick its arm, and its bytes join to its word. -/
theorem decodeOfEncodedInstruction : Obligations.DecodeOfEncodedInstruction := by
  unfold Obligations.DecodeOfEncodedInstruction
  intro i rest h
  exact ⟨decode_encode h, by rw [decodeBytes_wordBytes_append, decode_encode h]⟩

/-- Settles O2: both halves hold of each arm of the decoder. -/
theorem encodeOfDecodedWord : Obligations.EncodeOfDecodedWord := by
  unfold Obligations.EncodeOfDecodedWord
  exact fun w => ⟨decode_wf w, encode_decode w⟩

/-! ### The command by the number of the word -/

/-- Settles O4: a word is the encoding of a well-formed instruction, so it lies in a span of its mnemonic, and each span
is one line of the case list. -/
theorem mnemonicByWordRange : Obligations.MnemonicByWordRange := by
  unfold Obligations.MnemonicByWordRange
  intro w
  obtain ⟨x, hx, hm, hfirst, hstop⟩ := encode_mem_span (decode_wf w)
  rw [encode_decode] at hfirst hstop
  rw [← hm]
  generalize w.toNat = n at hfirst hstop ⊢
  clear hm
  simp only [commandSpans, List.mem_cons, List.not_mem_nil, or_false] at hx
  rcases hx with rfl | rfl | rfl | rfl | rfl | rfl | rfl | rfl | rfl | rfl | rfl | rfl <;> simp only at hfirst hstop ⊢
  all_goals simp (disch := omega) only [if_pos, if_neg]

/-- Settles O6: the decoder evaluates on each of the twelve words. -/
theorem sampleWordsDecode : Obligations.SampleWordsDecode := by
  unfold Obligations.SampleWordsDecode
  decide

/-! ### The assembler forms (R65) -/

/-- An OR with a number below a power of two is a sum, when the other side is a multiple of that power. -/
theorem or_eq_add_of_lt (i a : Nat) {b : Nat} (h : b < 2 ^ i) : a * 2 ^ i ||| b = a * 2 ^ i + b := by
  rw [mul_comm, Nat.two_pow_add_eq_or_of_lt h]

/-- R49, R65: a number put together from a CP format's opcode and control and a parameter is that format's word. -/
theorem ofNat_or_eq_formatCP {base p : Nat} (o : BitVec 2) (c : BitVec 6)
    (hbase : base = o.toNat * 16384 + c.toNat * 256) (hp : p ≤ 0xFF) :
    BitVec.ofNat 16 (base ||| p) = formatCP o c (BitVec.ofNat 8 p) := by
  have hor : base ||| p = base + p := by
    rw [hbase, show o.toNat * 16384 + c.toNat * 256 = (o.toNat * 64 + c.toNat) * 2 ^ 8 by ring]
    exact or_eq_add_of_lt 8 _ (by omega)
  apply BitVec.eq_of_toNat_eq
  rw [formatCP_toNat, hor, hbase, BitVec.toNat_ofNat, BitVec.toNat_ofNat]
  omega

/-- R65: an opcode and a control that the form's operand names. -/
theorem opcode_or_control {c : Nat} (o : BitVec 2) (hc : c ≤ 0x3F) :
    o.toNat * 16384 ||| c <<< 8 = o.toNat * 16384 + (BitVec.ofNat 6 c).toNat * 256 := by
  rw [Nat.shiftLeft_eq, show 16384 = 2 ^ 14 from rfl, or_eq_add_of_lt 14 o.toNat (by omega), BitVec.toNat_ofNat]
  omega

/-- R51, R65: a number put together from a Transmitter Test's operands is its word. -/
theorem ofNat_or_eq_formatTX {ch len pkt : Nat} (hch : ch ≤ 63) (hlen : len ≤ 63) (hpkt : pkt ≤ 3) :
    BitVec.ofNat 16 (0x8000 ||| ch <<< 8 ||| len <<< 2 ||| pkt) =
      formatTX (BitVec.ofNat 6 ch) (BitVec.ofNat 6 len) (BitVec.ofNat 2 pkt) := by
  have hfields : 0x8000 ||| ch <<< 8 ||| len <<< 2 ||| pkt = ((2 * 64 + ch) * 64 + len) * 4 + pkt := by
    rw [Nat.shiftLeft_eq, Nat.shiftLeft_eq, show 0x8000 = 2 * 2 ^ 14 from rfl, or_eq_add_of_lt 14 2 (by omega),
      show 2 * 2 ^ 14 + ch * 2 ^ 8 = (2 * 64 + ch) * 2 ^ 8 by ring, or_eq_add_of_lt 8 _ (by omega),
      show (2 * 64 + ch) * 2 ^ 8 + len * 2 ^ 2 = ((2 * 64 + ch) * 64 + len) * 2 ^ 2 by ring]
    exact or_eq_add_of_lt 2 _ (by omega)
  apply BitVec.eq_of_toNat_eq
  rw [formatTX_toNat, hfields]
  simp only [BitVec.toNat_ofNat]
  omega

/-- R65: the number of a form with a fixed control decodes by the decoder's arm of its opcode. -/
theorem decode_ofNat_setup {base p : Nat} (c : BitVec 6) (hbase : base = c.toNat * 256) (hp : p ≤ 0xFF) :
    decode (BitVec.ofNat 16 (base ||| p)) = decodeSetup c (BitVec.ofNat 8 p) := by
  rw [ofNat_or_eq_formatCP 0b00#2 c (by simpa using hbase) hp, decode_formatCP_setup]

theorem decode_ofNat_rxtest {base p : Nat} (ch : BitVec 6) (hbase : base = 16384 + ch.toNat * 256) (hp : p ≤ 0xFF) :
    decode (BitVec.ofNat 16 (base ||| p)) = .rxtest ch (BitVec.ofNat 8 p) := by
  rw [ofNat_or_eq_formatCP 0b01#2 ch (by simpa using hbase) hp]
  exact decode_formatRX ch _

theorem decode_ofNat_testEnd {base p : Nat} (c : BitVec 6) (hbase : base = 49152 + c.toNat * 256) (hp : p ≤ 0xFF) :
    decode (BitVec.ofNat 16 (base ||| p)) = decodeTestEnd c (BitVec.ofNat 8 p) := by
  rw [ofNat_or_eq_formatCP 0b11#2 c (by simpa using hbase) hp, decode_formatCP_testEnd]

/-- Decoding what a form spells, when its range is checked. -/
theorem map_decode_ite {P : Prop} [Decidable P] {w : Word} {i : Instr} (h : P → decode w = i) :
    (if P then some w else none).map decode = if P then some i else none := by
  split_ifs with hP
  · rw [Option.map_some, h hP]
  · rfl

/-- R59, R83: Read Max's word by its parameter as a number. -/
theorem decodeSetup_readMax {p : Nat} (hp : p ≤ 0xFF) : decodeSetup 0x05#6 (BitVec.ofNat 8 p) =
    if p ≤ 0x10 then .setupMax (BitVec.ofNat 8 p) else .setupMaxBadparam (BitVec.ofNat 8 p) := by
  have hle : BitVec.ofNat 8 p ≤ 0x10#8 ↔ p ≤ 0x10 := by rw [BitVec.ofNat_le_ofNat]; omega
  calc decodeSetup 0x05#6 (BitVec.ofNat 8 p)
      = if BitVec.ofNat 8 p ≤ 0x10#8 then _ else _ := rfl
    _ = _ := if_congr hle rfl rfl

/-- R89: the word of a Test End with control 0 by its parameter as a number. -/
theorem decodeTestEnd_control_zero {p : Nat} (hp : p ≤ 0xFF) : decodeTestEnd 0x00#6 (BitVec.ofNat 8 p) =
    if p ≤ 0x0A then .testend (BitVec.ofNat 8 p) else .testendBadparam (BitVec.ofNat 8 p) := by
  have hle : BitVec.ofNat 8 p ≤ 0x0A#8 ↔ p ≤ 0x0A := by rw [BitVec.ofNat_le_ofNat]; omega
  calc decodeTestEnd 0x00#6 (BitVec.ofNat 8 p)
      = if BitVec.ofNat 8 p ≤ 0x0A#8 then _ else _ := rfl
    _ = _ := if_congr hle rfl rfl

/-- A range check up to 0xFF over a smaller one. -/
theorem ite_some_ite {α : Type} {p m : Nat} (hm : m ≤ 0xFF) (a b : α) :
    (if p ≤ 0xFF then some (if p ≤ m then a else b) else none) =
      if p ≤ m then some a else if p ≤ 0xFF then some b else none := by
  by_cases h : p ≤ m
  · simp [h, h.trans hm]
  · simp [h]

/-- Settles O7: in its range, a form's number is the word of its format, which the decoder's arm reads back. -/
theorem assemblerFormsSpellTheirCommands : Obligations.AssemblerFormsSpellTheirCommands := by
  unfold Obligations.AssemblerFormsSpellTheirCommands
  refine ⟨fun p => ?_, fun p => ?_, fun p => ?_, fun p => ?_, fun c p => ?_, fun ch ign => ?_, fun ch len pkt => ?_,
    fun p => ?_, fun c p => ?_, fun h => rfl⟩
  · exact map_decode_ite (decode_ofNat_setup 0x00#6 rfl)
  · exact map_decode_ite (decode_ofNat_setup 0x01#6 rfl)
  · exact map_decode_ite (decode_ofNat_setup 0x04#6 rfl)
  · rw [← ite_some_ite (by decide)]
    exact map_decode_ite fun hp => (decode_ofNat_setup 0x05#6 rfl hp).trans (decodeSetup_readMax hp)
  · refine map_decode_ite fun ⟨hc, hp⟩ => decode_ofNat_setup _ ?_ hp
    rw [BitVec.toNat_ofNat, Nat.shiftLeft_eq]; omega
  · exact map_decode_ite fun ⟨hch, hign⟩ => decode_ofNat_rxtest _ (opcode_or_control 0b01#2 hch) hign
  · exact map_decode_ite fun ⟨hch, hlen, hpkt⟩ => by rw [ofNat_or_eq_formatTX hch hlen hpkt, decode_formatTX]
  · rw [← ite_some_ite (by decide)]
    exact map_decode_ite fun hp => (decode_ofNat_testEnd 0x00#6 rfl hp).trans (decodeTestEnd_control_zero hp)
  · exact map_decode_ite fun ⟨hc, hp⟩ => decode_ofNat_testEnd _ (opcode_or_control 0b11#2 hc) hp

end Sys2Proof
end

section
/-! PROOF. 30_encoding.md: the effective length (R58), the classes of Read Max (R59), the feature mask (R63) and the
response encoder with the kinds of its answers (R60 to R62, R72). -/

namespace Sys2Proof.Machine

/-! ### The effective transmit length -/

/-- R14: `upper_len[5:0]` is the remainder of the number modulo 64. -/
theorem low_bits_eq_zero_iff (ul : Byte) : ul &&& 0x3F#8 = 0x00#8 ↔ ul.toNat % 64 = 0 := by
  have hmod : (ul &&& 0x3F#8).toNat = ul.toNat % 64 :=
    (BitVec.toNat_and _ _).trans (Nat.and_two_pow_sub_one_eq_mod ul.toNat 6)
  rw [← BitVec.toNat_inj, hmod]; rfl

/-- R14: a value whose low six bits are 0 is its two upper bits and then zeros. -/
theorem eq_append_of_low_bits_zero {ul : Byte} (h : ul &&& 0x3F#8 = 0x00#8) :
    ul = ul.extractLsb' 6 2 ++ 0b000000#6 := by
  have hmod := (low_bits_eq_zero_iff ul).mp h
  apply BitVec.eq_of_toNat_eq
  rw [append_toNat, BitVec.extractLsb'_toNat, Nat.shiftRight_eq_div_pow]
  simp only [BitVec.toNat_ofNat]
  omega

/-- R58: two upper bits and a length do not overlap. -/
theorem effLength_append (len : BitVec 6) (u : BitVec 2) : effLength len (u ++ 0b000000#6) = u ++ len := by
  have hmask : len &&& 0x3F#6 = len := BitVec.and_allOnes
  have hlen : len.toNat % 2 ^ 8 = len.toNat := by omega
  apply BitVec.eq_of_toNat_eq
  rw [effLength, hmask, BitVec.toNat_or, BitVec.toNat_setWidth, hlen, append_toNat, append_toNat, Nat.or_comm]
  exact or_eq_add_of_lt 6 u.toNat len.isLt

/-- Settles O9: `upper_len` is its two upper bits and then zeros, which the length fills. -/
theorem effectiveLengthJoinsUpperBits : Obligations.EffectiveLengthJoinsUpperBits := by
  unfold Obligations.EffectiveLengthJoinsUpperBits
  intro len ul h
  calc effLength len ul = effLength len (ul.extractLsb' 6 2 ++ 0b000000#6) := by rw [← eq_append_of_low_bits_zero h]
    _ = ul.extractLsb' 6 2 ++ len := effLength_append len _

/-! ### The classes of Read Max -/

/-- R59: bits [3:2] of a parameter are its quotient by 4, modulo 4. -/
theorem parameterClass_eq (p : Byte) : p.extractLsb' 2 2 = BitVec.ofNat 2 (p.toNat / 4) := by
  apply BitVec.eq_of_toNat_eq
  rw [BitVec.extractLsb'_toNat, Nat.shiftRight_eq_div_pow, BitVec.toNat_ofNat]

/-- R59: a parameter up to 0x0F is classed by its bits [3:2]. -/
theorem classOf_of_le {p : Byte} (h : p.toNat ≤ 0x0F) : classOf p = some (classOfBits (p.extractLsb' 2 2)) := if_pos h

/-- R59: the class of a parameter up to 0x10, by its range. -/
def classOfRange (p : Byte) : ValueClass :=
  if p.toNat < 0x04 then .txOctets else if p.toNat < 0x08 then .txTime
  else if p.toNat < 0x0C then .rxOctets else if p.toNat < 0x10 then .rxTime else .cteLength

/-- R59: a parameter up to 0x10 has the class of its range. -/
theorem classOf_eq_range {p : Byte} (h : p.toNat ≤ 0x10) : classOf p = some (classOfRange p) := by
  by_cases hlow : p.toNat ≤ 0x0F
  · rw [classOf_of_le hlow, parameterClass_eq p, classOfRange]
    generalize p.toNat = n at hlow
    interval_cases n <;> rfl
  · have hp : p = 0x10#8 := by bv_omega
    rw [hp]; rfl

/-- R59: a parameter above 0x10 has no class. -/
theorem classOf_of_gt {p : Byte} (h : 0x10 < p.toNat) : classOf p = none := by
  have hlow : ¬ p ≤ 0x0F#8 := by bv_omega
  have hne : p ≠ 0x10#8 := by bv_omega
  rw [classOf, if_neg hlow, if_neg hne]

/-- Settles O10: a parameter up to 0x10 has the class of its range, and one above has none. -/
theorem readMaxClassRanges : Obligations.ReadMaxClassRanges := by
  unfold Obligations.ReadMaxClassRanges
  intro p
  by_cases h : p.toNat ≤ 0x10
  · rw [classOf_eq_range h, classOfRange]
    generalize p.toNat = n at h
    interval_cases n <;> rfl
  · rw [classOf_of_gt (not_le.mp h)]
    simp (disch := omega) only [if_neg]

/-! ### The feature mask -/

/-- Settles O11: the mask is the nine flags shifted up by one. -/
theorem featureFlagsSitAtBitsOneToNine : Obligations.FeatureFlagsSitAtBitsOneToNine := by
  unfold Obligations.FeatureFlagsSitAtBitsOneToNine
  intro f
  refine ⟨fun i hi => ?_, ?_, fun j hj => ?_⟩
  · have hin : i + 1 < 16 := by omega
    simp [featureMask, hin]
  · simp [featureMask]
  · have hout : f.getLsbD (j - 1) = false := BitVec.getLsbD_of_ge f _ (by omega)
    simp [featureMask, hout]

/-! ### The response encoder -/

/-- R72: success carries the response, failure the error word with EXEC_FAIL. -/
theorem okOrFail_eq (ok : Bool) (r : Word) : okOrFail ok r = if ok then (r, .none) else (0x0000#16, .execFail) := rfl

/-- R72: the operations whose success has no payload. -/
theorem encodeAnswer_of_no_payload {op : ExecOp} (hop : op = .reset ∨ op = .startRx ∨ op = .startTx) (ans : Answer) :
    encodeAnswer op ans = if ans.ok then (0x0001#16, .none) else (0x0000#16, .execFail) := by
  rw [← okOrFail_eq, ← statusSuccess_zero]
  obtain rfl | rfl | rfl := hop <;> rfl

/-- Settles O12: three operations without a payload, and three that spell their word out. -/
theorem encoderArms : Obligations.EncoderArms := by
  unfold Obligations.EncoderArms
  intro ok v c f
  exact ⟨encodeAnswer_of_no_payload (.inl rfl) _, rfl, rfl, encodeAnswer_of_no_payload (.inr (.inl rfl)) _,
    encodeAnswer_of_no_payload (.inr (.inr rfl)) _, rfl⟩

/-! ### The kinds of answers -/

/-- R62: no word is of two kinds. -/
theorem not_isSuccess_of_isError {r : Word} (h : isError r) : ¬ isSuccess r := by
  rintro ⟨-, hs⟩
  rw [show r = 0x0000#16 from h] at hs
  cases hs

theorem not_isReport_of_isSuccess {r : Word} (h : isSuccess r) : ¬ isReport r := by
  obtain ⟨h15, -⟩ := h
  rw [isReport, h15]
  exact Bool.false_ne_true

theorem not_isReport_of_isError {r : Word} (h : isError r) : ¬ isReport r := by
  rw [isReport, show r = 0x0000#16 from h]
  decide

theorem isReport_packetReport (count : BitVec 15) : isReport (packetReport count) := by
  rw [isReport, packetReport_eq_append, BitVec.getLsbD_append]; rfl

/-- R83: a Read Max value does not reach the event bit. -/
theorem readMaxPayload_getLsbD_eventBit (v : BitVec 14) : (v.setWidth 16 <<< 1).getLsbD 15 = false := by
  simp

/-- R72: an answer is a packet report for a successful END_TEST, the error word with EXEC_FAIL for a failed Result, and a
success status without a code otherwise. -/
theorem encodeAnswer_cases (op : ExecOp) (ans : Answer) :
    (op = .endTest ∧ ans.ok = true ∧ isReport (encodeAnswer op ans).1 ∧ (encodeAnswer op ans).2 = .none) ∨
    (¬ (op = .endTest ∧ ans.ok = true) ∧ isError (encodeAnswer op ans).1 ∧ (encodeAnswer op ans).2 = .execFail) ∨
    (¬ (op = .endTest ∧ ans.ok = true) ∧ isSuccess (encodeAnswer op ans).1 ∧ (encodeAnswer op ans).2 = .none) := by
  by_cases hfail : op ≠ .readFeatures ∧ ans.ok = false
  · obtain ⟨hop, hok⟩ := hfail
    rw [encodeAnswer_of_failed hop hok]
    exact .inr (.inl ⟨by simp [hok], rfl, rfl⟩)
  · cases op with
    | endTest =>
      have hok : ans.ok = true := by simpa using hfail
      rw [encodeAnswer_endTest_of_ok hok]
      exact .inl ⟨rfl, hok, isReport_packetReport _, rfl⟩
    | readFeatures =>
      exact .inr (.inr ⟨by simp, isSuccess_statusSuccess (featureMask_getLsbD_eventBit _), rfl⟩)
    | readMax =>
      have hok : ans.ok = true := by simpa using hfail
      have hval : encodeAnswer .readMax ans = (statusSuccess (ans.value.setWidth 16 <<< 1), .none) := by
        simp [encodeAnswer, okOrFail, hok]
      rw [hval]
      exact .inr (.inr ⟨by simp, isSuccess_statusSuccess (readMaxPayload_getLsbD_eventBit _), rfl⟩)
    | reset | startRx | startTx =>
      have hok : ans.ok = true := by simpa using hfail
      rw [encodeAnswer_of_no_payload (by simp), if_pos hok]
      exact .inr (.inr ⟨by simp, by decide, rfl⟩)

/-- R62: every answer is of one of the three kinds. -/
theorem isResponse_encodeAnswer (op : ExecOp) (ans : Answer) : isResponse (encodeAnswer op ans).1 := by
  obtain ⟨-, -, h, -⟩ | ⟨-, h, -⟩ | ⟨-, h, -⟩ := encodeAnswer_cases op ans
  · exact .inr (.inr h)
  · exact .inr (.inl h)
  · exact .inl h

/-- Settles O14: no word is of two kinds, so the three cases of an answer say which one it is. -/
theorem everyAnswerIsOfExactlyOneKind : Obligations.EveryAnswerIsOfExactlyOneKind := by
  unfold Obligations.EveryAnswerIsOfExactlyOneKind
  intro op ans
  refine ⟨isResponse_encodeAnswer op ans, fun ⟨hs, he⟩ => not_isSuccess_of_isError he hs,
    fun ⟨hs, hr⟩ => not_isReport_of_isSuccess hs hr, fun ⟨he, hr⟩ => not_isReport_of_isError he hr, ?_, ?_⟩
  · obtain ⟨hop, hok, hr, -⟩ | ⟨hno, he, -⟩ | ⟨hno, hs, -⟩ := encodeAnswer_cases op ans
    · exact iff_of_true hr ⟨hop, hok⟩
    · exact iff_of_false (not_isReport_of_isError he) hno
    · exact iff_of_false (not_isReport_of_isSuccess hs) hno
  · obtain ⟨-, -, hr, hc⟩ | ⟨-, he, hc⟩ | ⟨-, hs, hc⟩ := encodeAnswer_cases op ans
    · exact iff_of_false (fun he => not_isReport_of_isError he hr) (by simp [hc])
    · exact iff_of_true he hc
    · exact iff_of_false (fun he => not_isSuccess_of_isError he hs) (by simp [hc])

end Sys2Proof.Machine
end

section
/-! PROOF. 41_test_setup.md to 44_test_end.md: what serving each command does. The idea: serving a command is performing
its plan, so every statement about a command is an equation about its plan. -/

namespace Sys2Proof.Machine

/-! ### From the plan to the command -/

/-- A command whose plan is a request and no write of `upper_len`. -/
theorem exec_of_call {i : Instr} {s : State} {r : Request} (h : planOf i s.upperLen = ⟨s.upperLen, .call r⟩) :
    exec i s = .next (s.afterCall r) := by
  rw [exec_eq_perform, h, State.perform_call_keep]

/-- A command whose plan is an error and no write of `upper_len`. -/
theorem exec_of_error {i : Instr} {s : State} {code : DiagCode} (hcode : code ≠ .none)
    (h : planOf i s.upperLen = ⟨s.upperLen, .immediate statusError code⟩) :
    exec i s = .next (s.afterError code) := by
  rw [exec_eq_perform, h, State.perform_error hcode]

/-- Two commands with one plan do the same. -/
theorem exec_congr {i j : Instr} {s : State} (h : planOf i s.upperLen = planOf j s.upperLen) : exec i s = exec j s := by
  rw [exec_eq_perform, exec_eq_perform, h]

/-! ### The plans whose parameter is in range -/

/-- R59, R83: a Read Max parameter up to 0x10 asks for the value of its range's class. -/
theorem planReadMax_of_le {p : Byte} (h : p.toNat ≤ 0x10) (ul : Byte) :
    planReadMax p ul = ⟨ul, .call ⟨.readMax, 0, 0, 0, classOfRange p⟩⟩ := by
  rw [planReadMax, classOf_eq_range h]

/-- R89: a Test End with control 0 and a parameter up to 0x0A asks for the end of the test. -/
theorem planTestEnd_of_le {p : Byte} (h : p.toNat ≤ 0x0A) (ul : Byte) :
    planTestEnd 0x00#6 p ul = ⟨ul, .call ⟨.endTest, 0, 0, 0, .txOctets⟩⟩ := by
  have hp : ¬ 0x0A#8 < p := by bv_omega
  simp [planTestEnd, hp]

/-! ### Test Setup -/

/-- Settles O16: SETUP.RESET plans its request with the clear of `upper_len`. -/
theorem setupResetClearsUpperLenAndCalls : Obligations.SetupResetClearsUpperLenAndCalls := by
  unfold Obligations.SetupResetClearsUpperLenAndCalls
  intro p s
  calc exec (.setupReset p) s
      = .next (s.perform ⟨0x00#8, .call ⟨.reset, 0, 0, 0, .txOctets⟩⟩) := exec_eq_perform _ s
    _ = .next { s.afterCall ⟨.reset, 0, 0, 0, .txOctets⟩ with upperLen := 0x00#8 } := by
        rw [State.perform_call, State.source_eq]; rfl

/-- R81: serving SETUP.UPPER. -/
theorem exec_setupUpper (p : Byte) (s : State) :
    exec (.setupUpper p) s =
      .next ((s.setUpper (p.extractLsb' 2 2 ++ 0b000000#6)).respond s.source 0x0001#16) := by
  rw [← upperValue_eq_append, ← statusSuccess_zero]
  exact exec_eq_perform _ s

/-- Settles O17: the answer goes where the command came from. -/
theorem setupUpperWritesUpperLenAndAnswers : Obligations.SetupUpperWritesUpperLenAndAnswers := by
  unfold Obligations.SetupUpperWritesUpperLenAndAnswers
  intro p s
  refine ⟨fun hwire => ?_, fun haux => ?_⟩
  · rw [exec_setupUpper, State.source_eq, if_neg hwire]; rfl
  · rw [exec_setupUpper, State.source_eq, if_pos haux]; rfl

/-- Settles O18: SETUP.FEAT's plan does not read its parameter. -/
theorem setupFeatCallsReadFeatures : Obligations.SetupFeatCallsReadFeatures := by
  unfold Obligations.SetupFeatCallsReadFeatures
  exact fun p s => exec_of_call rfl

/-- Settles O19: both constructors plan by the parameter's class. -/
theorem readMaxCallsItsClassOrAnswersBadParam : Obligations.ReadMaxCallsItsClassOrAnswersBadParam := by
  unfold Obligations.ReadMaxCallsItsClassOrAnswersBadParam
  intro p s
  refine ⟨fun hle => ⟨exec_of_call (planReadMax_of_le hle _), exec_congr rfl⟩, fun hgt => ?_⟩
  have hplan := planReadMax_of_gt (BitVec.lt_def.mpr hgt) s.upperLen
  exact ⟨exec_of_error (by decide) hplan, exec_of_error (by decide) hplan⟩

/-! ### Test End -/

/-- Settles O23: the plan carries no parameter. -/
theorem testEndCallsEndTest : Obligations.TestEndCallsEndTest := by
  unfold Obligations.TestEndCallsEndTest
  exact fun p s hle => exec_of_call (planTestEnd_of_le hle _)

/-- Settles O24: the three constructors share one plan, which checks the control before the parameter. -/
theorem testEndErrorsAnswerZero : Obligations.TestEndErrorsAnswerZero := by
  unfold Obligations.TestEndErrorsAnswerZero
  intro c p s
  refine ⟨fun hc => ?_, fun hc => ?_, fun hgt => ?_, fun _ => exec_congr rfl⟩
  · exact exec_of_error (by decide) (planTestEnd_of_control hc p _)
  · subst hc
    exact exec_congr rfl
  · have hplan := planTestEnd_of_gt (BitVec.lt_def.mpr hgt) s.upperLen
    exact ⟨exec_of_error (by decide) hplan, exec_of_error (by decide) hplan⟩

/-! ### Ignored bits -/

/-- Settles O25: two commands that differ in ignored bits have one plan. -/
theorem ignoredBitsHaveNoEffect : Obligations.IgnoredBitsHaveNoEffect := by
  unfold Obligations.IgnoredBitsHaveNoEffect
  intro s p q
  refine ⟨exec_congr rfl, exec_congr rfl, fun ch => exec_congr rfl, fun hbits => ?_, fun hp hq hbits => ?_,
    fun hp hq => ?_⟩
  · rw [exec_setupUpper, exec_setupUpper, hbits]
  · have hclass : classOf p = classOf q := by rw [classOf_of_le hp, classOf_of_le hq, hbits]
    exact exec_congr (by simp only [planOf, planReadMax, hclass])
  · exact exec_congr ((planTestEnd_of_le hp _).trans (planTestEnd_of_le hq _).symm)

/-! ### Transmitter Test -/

/-- Settles O26: TXTEST's request carries its packet type, and START_TX shows it on the port. -/
theorem packetTypeIsThePatternCode : Obligations.PacketTypeIsThePatternCode := by
  unfold Obligations.PacketTypeIsThePatternCode
  exact ⟨fun ch len pkt s => ⟨_, exec_eq_perform (.txtest ch len pkt) s, rfl, rfl⟩, rfl, rfl, rfl, rfl⟩

/-- R86: the length a Transmitter Test requests when `upper_len` is two upper bits and then zeros. -/
theorem exec_txtest_length (ch len : BitVec 6) (pkt u : BitVec 2) {s : State} (h : s.upperLen = u ++ 0b000000#6) :
    ∃ t, exec (.txtest ch len pkt) s = .next t ∧ t.req.length.toNat = len.toNat + 64 * u.toNat := by
  refine ⟨_, exec_eq_perform (.txtest ch len pkt) s, ?_⟩
  calc (effLength len s.upperLen).toNat
      = (u ++ len).toNat := by rw [h, effLength_append]
    _ = len.toNat + 64 * u.toNat := by rw [append_toNat]; ring

/-- Settles O27: the first command leaves two upper bits and then zeros in `upper_len`, which the test's length fills. -/
theorem transmitLengthAfterUpperAndAfterReset : Obligations.TransmitLengthAfterUpperAndAfterReset := by
  unfold Obligations.TransmitLengthAfterUpperAndAfterReset
  intro p ch len pkt s
  constructor
  · have hul : ((s.setUpper (p.extractLsb' 2 2 ++ 0b000000#6)).respond s.source 0x0001#16).upperLen =
        p.extractLsb' 2 2 ++ 0b000000#6 := State.respond_upperLen _ _ _
    obtain ⟨u, hexec, hlen⟩ := exec_txtest_length ch len pkt _ hul
    refine ⟨_, u, exec_setupUpper p s, hexec, ?_⟩
    rw [hlen, BitVec.extractLsb'_toNat, Nat.shiftRight_eq_div_pow]
  · obtain ⟨u, hexec, hlen⟩ := exec_txtest_length ch len pkt 0b00#2
      (s := { s.afterCall ⟨.reset, 0, 0, 0, .txOctets⟩ with upperLen := 0x00#8 }) rfl
    exact ⟨_, u, setupResetClearsUpperLenAndCalls p s, hexec, hlen⟩

end Sys2Proof.Machine
end

section
/-! PROOF. 40_dispatch.md R69, R77, R105 and 60_exceptions.md R111: what serving any command can do. -/

namespace Sys2Proof.Machine

/-! A response touches the port of its source alone (R68). -/

@[simp] theorem State.respond_out_rxPop (src : Source) (resp : Word) (s : State) :
    (s.respond src resp).out.rxPop = s.out.rxPop := by cases src <;> rfl
@[simp] theorem State.respond_out_auxTake (src : Source) (resp : Word) (s : State) :
    (s.respond src resp).out.auxTake = s.out.auxTake := by cases src <;> rfl

/-- R34: a word is its two bytes. -/
theorem highByte_append_lowByte (w : Word) : highByte w ++ lowByte w = w := joinBytes_bytes w

@[simp] theorem State.perform_out_rxPop (p : Plan) (s : State) : (s.perform p).out.rxPop = s.out.rxPop := by
  obtain ⟨r, -, h⟩ | ⟨resp, code, -, h⟩ := s.perform_cases p <;> simp [h]
@[simp] theorem State.perform_out_auxTake (p : Plan) (s : State) : (s.perform p).out.auxTake = s.out.auxTake := by
  obtain ⟨r, -, h⟩ | ⟨resp, code, -, h⟩ := s.perform_cases p <;> simp [h]

/-- R105: performing a plan latches a request and drives nothing, or answers once at the command's source and keeps the
request registers. -/
theorem State.perform_answers_once (p : Plan) (s : State) :
    ((s.perform p).busy = true ∧ (s.perform p).srcReg = s.source ∧ (s.perform p).tx = s.tx ∧
      (s.perform p).out = s.out) ∨
    ((s.perform p).busy = s.busy ∧ (s.perform p).srcReg = s.srcReg ∧ (s.perform p).req = s.req ∧
      ((s.source = .framer ∧ (s.perform p).out.txValid = true ∧
          (s.perform p).tx = s.tx ++ [(s.perform p).out.txHi, (s.perform p).out.txLo] ∧
          (s.perform p).out.auxRespValid = s.out.auxRespValid ∧ (s.perform p).out.auxResp = s.out.auxResp) ∨
        (s.source = .aux ∧ (s.perform p).out.auxRespValid = true ∧ (s.perform p).tx = s.tx ∧
          (s.perform p).out.txValid = s.out.txValid ∧ (s.perform p).out.txHi = s.out.txHi ∧
          (s.perform p).out.txLo = s.out.txLo))) := by
  obtain ⟨r, -, h⟩ | ⟨resp, code, -, h⟩ := s.perform_cases p
  · exact .inl (by simp [h])
  · right
    cases hsrc : s.source <;> simp [h, hsrc, State.respond_framer, State.respond_aux]

/-- Settles O44: serving is performing a plan, which has its own small frame and answers once. -/
theorem servingHasOnlyTheListedEffects : Obligations.ServingHasOnlyTheListedEffects := by
  unfold Obligations.ServingHasOnlyTheListedEffects
  intro i s
  refine ⟨_, exec_eq_perform i s, State.perform_fr _ s, State.perform_hi _ s, State.perform_ts _ s,
    State.perform_rx _ s, State.perform_par _ s, State.perform_pins _ s, State.perform_script _ s,
    State.perform_draws _ s, State.perform_out_rxPop _ s, State.perform_out_auxTake _ s, fun hreset hupper => ?_,
    s.perform_answers_once _⟩
  rw [State.perform_upperLen, planOf_upperNext]
  cases i with
  | setupReset p => exact absurd rfl (hreset p)
  | setupUpper p => exact absurd rfl (hupper p)
  | _ => rfl

/-- R25: every cycle has a next state. -/
theorem step_total (s : State) : ∃ t, step s = .next t := by
  cases h : s.fetch with
  | done t => exact ⟨_, step_done h⟩
  | serve w t => exact ⟨_, step_serve h⟩

theorem State.perform_of_call {p : Plan} {r : Request} (h : p.action = .call r) (s : State) :
    s.perform p = { s with upperLen := p.upperNext, busy := true, srcReg := s.source, req := r } := by
  obtain ⟨ul, a⟩ := p
  obtain rfl : a = .call r := h
  rfl

theorem State.perform_of_immediate {p : Plan} {resp : Word} {code : DiagCode} (h : p.action = .immediate resp code)
    (s : State) : s.perform p = ((s.setUpper p.upperNext).respond s.source resp).diag code := by
  obtain ⟨ul, a⟩ := p
  obtain rfl : a = .immediate resp code := h
  rfl

/-- R105, R111: serving a command latches a request whose unused fields are 0, or puts a response of one of the three
kinds on the port of the command's source. -/
theorem State.perform_planOf_answers (i : Instr) (ul : Byte) (s : State) :
    ((s.perform (planOf i ul)).busy = true ∧ (s.perform (planOf i ul)).req.Ok) ∨
    ((s.perform (planOf i ul)).out.txValid = true ∧
      isResponse ((s.perform (planOf i ul)).out.txHi ++ (s.perform (planOf i ul)).out.txLo)) ∨
    ((s.perform (planOf i ul)).out.auxRespValid = true ∧ isResponse (s.perform (planOf i ul)).out.auxResp) := by
  obtain ⟨r, hplan, hok⟩ | ⟨resp, code, hplan, hresp, -⟩ := planOf_action i ul
  · rw [State.perform_of_call hplan]
    exact .inl ⟨rfl, hok⟩
  · rw [State.perform_of_immediate hplan]
    right
    cases s.source with
    | framer => exact .inl (by simpa [State.respond_framer, highByte_append_lowByte] using hresp)
    | aux => exact .inr (by simpa [State.respond_aux] using hresp)

/-- Settles O47: a cycle either is over or performs a plan, and a plan's action and an answer are each of a known kind. -/
theorem everyWordGetsAWellFormedResponse : Obligations.EveryWordGetsAWellFormedResponse := by
  unfold Obligations.EveryWordGetsAWellFormedResponse
  exact ⟨step_total, fun w s => ⟨_, exec_eq_perform (decode w) s, State.perform_planOf_answers _ _ s⟩,
    isResponse_encodeAnswer⟩

end Sys2Proof.Machine
end

section
/-! PROOF. 10_state.md R20, R24 and 30_encoding.md R64: what the executor port and the diagnostic port show. -/

namespace Sys2Proof.Machine

/-- R64: an operation's number is at most 5. -/
theorem ExecOp.code_le (op : ExecOp) : op.code ≤ 5 := by cases op <;> decide

/-- R59: a class's number is at most 4. -/
theorem ValueClass.code_le (k : ValueClass) : k.code ≤ 4 := by cases k <;> decide

/-- R20: the port shows the class of a Read Max alone. -/
theorem State.execPort_cls (s : State) : s.execPort.cls = if s.req.op = .readMax then s.req.cls.code else 0#3 := by
  unfold State.execPort
  cases s.req.op <;> rfl

/-- R20: an argument that the port hides is one that the operation does not use, so it is 0 in the request. -/
theorem State.execPort_eq {s : State} (h : s.req.Ok) :
    s.execPort = ⟨s.busy, s.req.op.code, s.req.channel, s.req.length, s.req.pattern, s.req.cls.code⟩ := by
  obtain ⟨hch, hlen, hcls⟩ := h
  unfold State.execPort
  cases hop : s.req.op with
  | startTx =>
    rw [hcls (by simp [hop])]; rfl
  | startRx =>
    obtain ⟨hl, hp⟩ := hlen (by simp [hop])
    rw [hl, hp, hcls (by simp [hop])]; rfl
  | readMax =>
    obtain ⟨hl, hp⟩ := hlen (by simp [hop])
    rw [hch (by simp [hop]), hl, hp]
  | reset | readFeatures | endTest =>
    obtain ⟨hl, hp⟩ := hlen (by simp [hop])
    rw [hch (by simp [hop]), hl, hp, hcls (by simp [hop])]; rfl

/-- Settles O28: unused fields are 0 in the request and on the port. -/
theorem executorPortShowsTheRequest : Obligations.ExecutorPortShowsTheRequest := by
  unfold Obligations.ExecutorPortShowsTheRequest
  exact fun s h => ⟨State.execPort_eq h, s.req.op.code_le, s.req.cls.code_le⟩

/-- Settles O59: the codes by evaluation, the ports by what they show. -/
theorem portCodesAreTheSpecsNumbers : Obligations.PortCodesAreTheSpecsNumbers := by
  unfold Obligations.PortCodesAreTheSpecsNumbers
  exact ⟨by decide, by decide, by decide, fun s => ⟨rfl, State.execPort_cls s, rfl⟩⟩

end Sys2Proof.Machine
end

section
/-! PROOF. 10_state.md R25 and 45_framer.md: the cycles that serve no command, and the auxiliary word's, each with the
full state after it. -/

namespace Sys2Proof.Machine

/-! ### The environment's move -/

/-- R10: a move that the script decides. -/
theorem State.between_of_cons {s : State} {inp : CycleInput} {rest : List CycleInput} (h : s.script = inp :: rest) :
    s.between = { s.present inp with script := rest } := by
  simp [State.between, h]

/-- R10: a move that no script entry decides. -/
theorem State.between_of_nil {s : State} (h : s.script = []) :
    s.between = { s.present (Config.freeInput s.draws) with draws := s.draws + 1 } := by
  simp [State.between, h]

/-- Settles O40: a move presents the script's next entry, or a free draw. -/
theorem environmentMovesBetweenCycles : Obligations.EnvironmentMovesBetweenCycles := by
  unfold Obligations.EnvironmentMovesBetweenCycles
  exact ⟨fun s inp rest h => State.between_of_cons h, fun s h => ⟨_, rfl, State.between_of_nil h⟩⟩

/-! ### Reset, wait and completion -/

/-- Settles O39: the cycle is a hardware reset and nothing else. -/
theorem resetCycleSetsEveryRegister : Obligations.ResetCycleSetsEveryRegister := by
  unfold Obligations.ResetCycleSetsEveryRegister
  exact fun s hrst => step_of_rst hrst

/-- Settles O50: the fields of a literal state. -/
theorem resetStateHoldsTheResetValues : Obligations.ResetStateHoldsTheResetValues := by
  unfold Obligations.ResetStateHoldsTheResetValues
  decide

/-- Settles O49: each part is a fact about the literal reset values. -/
theorem resetStateMeetsTheInvariant : Obligations.ResetStateMeetsTheInvariant := by
  unfold Obligations.ResetStateMeetsTheInvariant
  exact ⟨by decide, by decide, by decide, by decide, by decide, by decide⟩

/-- R71, R113: the wait of an outstanding request. -/
theorem step_of_wait {s : State} (hrst : s.pins.rst = false) (hbusy : s.busy = true) (hack : s.pins.execAck = false) :
    step s = .next s.clearOutputs.between :=
  step_done (by simp [State.fetch, hrst, hbusy, hack])

/-- R71: the completion of an outstanding request. -/
theorem step_of_ack {s : State} (hrst : s.pins.rst = false) (hbusy : s.busy = true) (hack : s.pins.execAck = true) :
    step s = .next s.clearOutputs.complete.between :=
  step_done (by simp [State.fetch, hrst, hbusy, hack])

/-- Settles O38: a waiting cycle clears its outputs. -/
theorem unansweredRequestWaits : Obligations.UnansweredRequestWaits := by
  unfold Obligations.UnansweredRequestWaits
  exact fun s hrst hbusy hack => step_of_wait hrst hbusy hack

/-- R110: where no diagnostic is driven yet, a code is driven as it is, NONE with no pulse. -/
theorem State.diag_eq_of_none {s : State} (hvalid : s.out.diagValid = false) (hcode : s.out.diagCode = .none)
    (code : DiagCode) :
    s.diag code = { s with out := { s.out with diagValid := decide (code ≠ DiagCode.none), diagCode := code } } := by
  by_cases h : code = .none
  · subst h
    rw [State.diag_none, show decide (DiagCode.none ≠ DiagCode.none) = s.out.diagValid by rw [hvalid]; rfl, ← hcode]
  · rw [State.diag_pulse h, decide_eq_true h]

/-- R71: a completion answers the request of a known source. -/
theorem State.complete_of_source {s : State} {src : Source} (h : s.srcReg = src) :
    s.complete = ((s.respond src (encodeAnswer s.req.op s.pins.answer).1).diag
      (encodeAnswer s.req.op s.pins.answer).2).release := by
  rw [← h]; rfl

/-- Settles O37: a completion responds at the request's source and pulses the answer's code. -/
theorem acknowledgedRequestCompletes : Obligations.AcknowledgedRequestCompletes := by
  unfold Obligations.AcknowledgedRequestCompletes
  intro s hrst hbusy hack
  rw [step_of_ack hrst hbusy hack]
  constructor
  · intro hsrc
    rw [State.complete_of_source (s := s.clearOutputs) hsrc, State.diag_eq_of_none rfl rfl]; rfl
  · intro hsrc
    rw [State.complete_of_source (s := s.clearOutputs) hsrc, State.diag_eq_of_none rfl rfl]; rfl

/-! ### The auxiliary word -/

/-- Settles O36: the offered word is taken before a poll. -/
theorem auxiliaryWordIsServedFirst : Obligations.AuxiliaryWordIsServedFirst := by
  unfold Obligations.AuxiliaryWordIsServedFirst
  intro s hrst hbusy hwired hvalid
  have hf : s.fetch = .serve s.pins.auxWord s.clearOutputs.takeAux := by
    simp [State.fetch, State.auxOffered, hrst, hbusy, hwired, hvalid]
  exact step_exec hf

/-! ### The polls that serve nothing -/

/-- R94: an idle poll that finds one byte. -/
theorem State.poll_idle_of_one {s : State} {b : Byte} (hfr : s.fr = .idle) (hrx : s.rx = [b]) :
    s.poll = .done ((s.holdHigh b).popRx 1) := by
  simp [State.poll, hfr, State.rxCount, State.rxPeek, hrx]

/-- R97: an AWAIT poll that finds no byte after the timeout. -/
theorem State.poll_await_of_timeout {s : State} (hfr : s.fr = .await) (hrx : s.rx = []) (ht : 5 < s.elapsed) :
    s.poll = .done (s.toIdle.diag .desync) := by
  have hyes : Config.timeoutUnits < s.elapsed := ht
  simp [State.poll, hfr, State.rxCount, hrx, hyes]

/-- Settles O30: a time below 2^TIME_W is stored as it is. -/
theorem idlePollTakesTheHighByte : Obligations.IdlePollTakesTheHighByte := by
  unfold Obligations.IdlePollTakesTheHighByte
  intro s b hrst hbusy haux hfr hrx hnow
  rw [step_done ((State.fetch_eq_poll hrst hbusy haux).trans (State.poll_idle_of_one (s := s.clearOutputs) hfr hrx))]
  simp [State.popRx, State.holdHigh, State.clearOutputs, hrx, Nat.mod_eq_of_lt hnow]

/-- R97: the step that drops the high byte. -/
theorem step_of_timeout {s : State} (hrst : s.pins.rst = false) (hbusy : s.busy = false)
    (haux : ¬ (s.par.auxPresent = true ∧ s.pins.auxValid = true)) (hfr : s.fr = .await) (hrx : s.rx = [])
    (ht : 5 < s.elapsed) : step s = .next (s.clearOutputs.toIdle.diag .desync).between :=
  step_done ((State.fetch_eq_poll hrst hbusy haux).trans (State.poll_await_of_timeout (s := s.clearOutputs) hfr hrx ht))

/-- Settles O33: the poll goes to IDLE and pulses DESYNC. -/
theorem timeoutDropsTheHighByte : Obligations.TimeoutDropsTheHighByte := by
  unfold Obligations.TimeoutDropsTheHighByte
  exact fun s hrst hbusy haux hfr hrx ht => step_of_timeout hrst hbusy haux hfr hrx ht

/-! ### The elapsed time -/

/-- R99: of two TIME_W-bit times, the subtraction borrows one 2^TIME_W. -/
theorem State.elapsed_eq {s : State} (h : s.TimeOk) :
    s.elapsed = (2 ^ s.par.timeW - s.ts + s.pins.now) % 2 ^ s.par.timeW := by
  obtain ⟨-, hts, hnow⟩ := h
  rw [State.elapsed, BitVec.toNat_sub, BitVec.toNat_ofNat, BitVec.toNat_ofNat, Nat.mod_eq_of_lt hts,
    Nat.mod_eq_of_lt hnow]

/-- Settles O35: the borrow is 0 modulo 2^TIME_W. -/
theorem elapsedIsTheModularDifference : Obligations.ElapsedIsTheModularDifference := by
  unfold Obligations.ElapsedIsTheModularDifference
  intro s h
  have hborrow := State.elapsed_eq h
  obtain ⟨-, hts, -⟩ := h
  rw [hborrow, Int.natCast_mod, Nat.cast_add, Nat.cast_sub hts.le, sub_add_eq_add_sub, add_sub_assoc,
    Int.add_emod_left]

end Sys2Proof.Machine
end

section
/-! PROOF. What a cycle does not observe (10_state.md R16, R17, R20, R22): `hi` and `ts` while the framer is IDLE, the
auxiliary pins of an unwired port, and an acknowledgement without a request. The idea: writing such a field commutes with
everything the cycle does up to a served command, and with performing a plan; a pin is overwritten by the environment's
move. -/

namespace Sys2Proof.Machine

/-! ### The state at the end of a cycle -/

/-- R69: the state a cycle leaves to the environment: what it has reached, with its command served where it hands over a
word. -/
def Fetched.finish : Fetched → State
  | .done t => t
  | .serve w t => t.perform (planOf (decode w) t.upperLen)

@[simp] theorem Fetched.finish_done (t : State) : Fetched.finish (.done t) = t := rfl
@[simp] theorem Fetched.finish_serve (w : Word) (t : State) :
    Fetched.finish (.serve w t) = t.perform (planOf (decode w) t.upperLen) := rfl
@[simp] theorem Fetched.state_done (t : State) : Fetched.state (.done t) = t := rfl
@[simp] theorem Fetched.state_serve (w : Word) (t : State) : Fetched.state (.serve w t) = t := rfl

/-- R25: a step is the cycle and then the environment's move. -/
theorem step_eq_finish (s : State) : step s = .next s.fetch.finish.between := by
  cases h : s.fetch with
  | done t => exact step_done h
  | serve w t => exact step_serve h

theorem eq_between_of_step {s t : State} (h : step s = .next t) : t = s.fetch.finish.between := by
  rw [step_eq_finish] at h
  injection h with h
  exact h.symm

/-- R105: serving a command keeps the framer's state and the pins. -/
theorem Fetched.finish_fr (F : Fetched) : F.finish.fr = F.state.fr := by cases F <;> simp
theorem Fetched.finish_pins (F : Fetched) : F.finish.pins = F.state.pins := by cases F <;> simp

/-- The same fetch with its state changed by `f`. -/
def Fetched.map (f : State → State) : Fetched → Fetched
  | .done t => .done (f t)
  | .serve w t => .serve w (f t)

@[simp] theorem Fetched.map_done (f : State → State) (t : State) : Fetched.map f (.done t) = .done (f t) := rfl
@[simp] theorem Fetched.map_serve (f : State → State) (w : Word) (t : State) :
    Fetched.map f (.serve w t) = .serve w (f t) := rfl

/-- A change that keeps `upper_len` and commutes with performing a plan is carried to the end of the cycle. -/
theorem Fetched.finish_map {f : State → State} {F : Fetched} (hul : (f F.state).upperLen = F.state.upperLen)
    (hperform : ∀ p, (f F.state).perform p = f (F.state.perform p)) : (F.map f).finish = f F.finish := by
  cases F with
  | done t => rfl
  | serve w t =>
    rw [Fetched.state_serve] at hul hperform
    rw [Fetched.map_serve, Fetched.finish_serve, Fetched.finish_serve, hul, hperform]

/-! ### Stale framing registers -/

/-- Other values in the framer's two data registers. -/
def State.setStale (b : Byte) (n : Nat) (s : State) : State := { s with hi := b, ts := n }

theorem State.respond_setStale (b : Byte) (n : Nat) (src : Source) (resp : Word) (s : State) :
    (s.setStale b n).respond src resp = (s.respond src resp).setStale b n := by cases src <;> rfl

theorem State.diag_setStale (b : Byte) (n : Nat) (code : DiagCode) (s : State) :
    (s.setStale b n).diag code = (s.diag code).setStale b n := by cases code <;> rfl

theorem State.complete_setStale (b : Byte) (n : Nat) (s : State) :
    (s.setStale b n).complete = s.complete.setStale b n := by
  rw [State.complete_of_source (s := s.setStale b n) rfl, State.respond_setStale, State.diag_setStale]; rfl

theorem State.perform_setStale (b : Byte) (n : Nat) (p : Plan) (s : State) :
    (s.setStale b n).perform p = (s.perform p).setStale b n := by
  cases h : p.action with
  | call r => rw [State.perform_of_call h, State.perform_of_call h]; rfl
  | immediate resp code =>
    rw [State.perform_of_immediate h, State.perform_of_immediate h, ← State.diag_setStale, ← State.respond_setStale]; rfl

theorem State.between_setStale (b : Byte) (n : Nat) (s : State) :
    (s.setStale b n).between = s.between.setStale b n := by
  cases h : s.script with
  | nil => rw [State.between_of_nil h, State.between_of_nil (s := s.setStale b n) h]; rfl
  | cons inp rest => rw [State.between_of_cons h, State.between_of_cons (s := s.setStale b n) h]; rfl

/-- R16, R17, R91: an idle poll overwrites `hi` and `ts` when it takes a byte; otherwise it carries them through and the
framer stays IDLE. -/
theorem State.poll_setStale (b : Byte) (n : Nat) {s : State} (hfr : s.fr = .idle) :
    (s.setStale b n).poll = s.poll ∨
    ((s.setStale b n).poll = s.poll.map (State.setStale b n) ∧ s.poll.state.fr = .idle) := by
  have hfr' : (s.setStale b n).fr = .idle := hfr
  match hrx : s.rx with
  | [] =>
    rw [State.poll_idle_of_nil hfr hrx, State.poll_idle_of_nil hfr' hrx]
    exact .inr ⟨rfl, hfr⟩
  | [a] =>
    rw [State.poll_idle_of_one hfr hrx, State.poll_idle_of_one hfr' hrx]
    exact .inl rfl
  | a :: c :: rest =>
    rw [State.poll_idle_of_two hfr hrx, State.poll_idle_of_two hfr' hrx]
    exact .inr ⟨rfl, hfr⟩

/-- R16, R17, R25: so does a cycle, in which a hardware reset overwrites them too. -/
theorem State.fetch_setStale (b : Byte) (n : Nat) {s : State} (hfr : s.fr = .idle) :
    (s.setStale b n).fetch = s.fetch ∨
    ((s.setStale b n).fetch = s.fetch.map (State.setStale b n) ∧ s.fetch.state.fr = .idle) := by
  unfold State.fetch
  rw [show (s.setStale b n).pins = s.pins from rfl, show (s.setStale b n).busy = s.busy from rfl,
    show (s.setStale b n).auxOffered = s.auxOffered from rfl]
  split_ifs
  · exact .inl rfl
  · exact .inr ⟨congrArg Fetched.done (State.complete_setStale b n s.clearOutputs), by simpa using hfr⟩
  · exact .inr ⟨rfl, hfr⟩
  · exact .inr ⟨rfl, hfr⟩
  · exact State.poll_setStale b n (s := s.clearOutputs) hfr

/-- I17: a state that agrees but for stale registers is the state itself, or the framer is IDLE and it has other values
in them. -/
theorem State.sameButStale_iff {s t : State} :
    s.SameButStale t ↔ t = s ∨ (s.fr = .idle ∧ ∃ b n, t = s.setStale b n) := by
  constructor
  · rintro ⟨heq, hawait⟩
    cases hfr : s.fr with
    | idle => exact .inr ⟨rfl, _, _, heq⟩
    | await =>
      obtain ⟨hhi, hts⟩ := hawait hfr
      left
      rw [heq, ← hhi, ← hts]
  · rintro (rfl | ⟨hfr, b, n, rfl⟩)
    · exact ⟨rfl, fun _ => ⟨rfl, rfl⟩⟩
    · refine ⟨rfl, fun hawait => ?_⟩
      rw [hfr] at hawait
      cases hawait

/-- Settles O51: an idle cycle either overwrites the stale registers or carries them through and stays IDLE. -/
theorem staleFramingRegistersAreNeverObserved : Obligations.StaleFramingRegistersAreNeverObserved := by
  unfold Obligations.StaleFramingRegistersAreNeverObserved
  intro s t s' hst hs
  obtain rfl | ⟨hfr, b, n, rfl⟩ := State.sameButStale_iff.mp hst
  · exact ⟨s', hs, State.sameButStale_iff.mpr (.inl rfl)⟩
  · refine ⟨_, step_eq_finish _, State.sameButStale_iff.mpr ?_⟩
    rw [eq_between_of_step hs]
    obtain hsame | ⟨hmap, hidle⟩ := State.fetch_setStale b n hfr
    · exact .inl (by rw [hsame])
    · refine .inr ⟨by rw [State.between_fr, Fetched.finish_fr, hidle], b, n, ?_⟩
      rw [hmap, Fetched.finish_map rfl (fun p => State.perform_setStale b n p _), State.between_setStale]

/-! ### Pins that a cycle does not read -/

/-- Other values on the input pins. -/
def State.setPins (p : Pins) (s : State) : State := { s with pins := p }

theorem State.respond_setPins (p : Pins) (src : Source) (resp : Word) (s : State) :
    (s.setPins p).respond src resp = (s.respond src resp).setPins p := by cases src <;> rfl

theorem State.diag_setPins (p : Pins) (code : DiagCode) (s : State) :
    (s.setPins p).diag code = (s.diag code).setPins p := by cases code <;> rfl

theorem State.complete_setPins {p : Pins} {s : State} (h : p.answer = s.pins.answer) :
    (s.setPins p).complete = s.complete.setPins p := by
  rw [State.complete_of_source (s := s.setPins p) rfl, State.respond_setPins, State.diag_setPins,
    show (s.setPins p).pins.answer = s.pins.answer from h]
  rfl

/-- R69: performing a plan reads the command's source off the pins, and nothing else. -/
theorem State.perform_setPins {p : Pins} {s : State} (h : (s.setPins p).source = s.source) (q : Plan) :
    (s.setPins p).perform q = (s.perform q).setPins p := by
  cases hq : q.action with
  | call r => rw [State.perform_of_call hq, State.perform_of_call hq, h]; rfl
  | immediate resp code =>
    rw [State.perform_of_immediate hq, State.perform_of_immediate hq, h, ← State.diag_setPins,
      ← State.respond_setPins]
    rfl

/-- R10: the environment's move overwrites every pin, and reads `now` alone. -/
theorem State.between_setPins {p : Pins} {s : State} (h : p.now = s.pins.now) : (s.setPins p).between = s.between := by
  have hpresent (inp : CycleInput) : (s.setPins p).present inp = s.present inp := by
    simp [State.present, State.setPins, h]
  cases hscript : s.script with
  | nil => rw [State.between_of_nil hscript, State.between_of_nil (s := s.setPins p) hscript, ← hpresent]; rfl
  | cons inp rest =>
    rw [State.between_of_cons hscript, State.between_of_cons (s := s.setPins p) hscript, ← hpresent]

/-- R91: a poll reads of the pins the time alone. -/
theorem State.poll_setPins {p : Pins} {s : State} (h : p.now = s.pins.now) :
    (s.setPins p).poll = s.poll.map (State.setPins p) := by
  have helapsed : (s.setPins p).elapsed = s.elapsed := by
    rw [State.elapsed, State.elapsed, show (s.setPins p).pins.now = s.pins.now from h]; rfl
  have hhold (b : Byte) : (s.setPins p).holdHigh b = (s.holdHigh b).setPins p := by
    simp [State.holdHigh, State.setPins, h]
  unfold State.poll
  rw [helapsed, hhold, show (s.setPins p).fr = s.fr from rfl]
  cases s.fr with
  | idle => simp only [apply_ite (Fetched.map (State.setPins p))]; rfl
  | await => simp only [apply_ite (Fetched.map (State.setPins p))]; rfl

/-- The same auxiliary pins wherever the port is wired (R22). -/
def State.SameAux (s : State) (p : Pins) : Prop :=
  s.par.auxPresent = true → p.auxValid = s.pins.auxValid ∧ p.auxWord = s.pins.auxWord

theorem State.auxOffered_setPins {p : Pins} {s : State} (h : s.SameAux p) :
    (s.setPins p).auxOffered = s.auxOffered := by
  cases hwired : s.par.auxPresent with
  | true =>
    obtain ⟨hvalid, -⟩ := h hwired
    simp [State.auxOffered, State.setPins, hvalid]
  | false => simp [State.auxOffered, State.setPins, hwired]

theorem State.source_setPins {p : Pins} {s : State} (h : s.SameAux p) : (s.setPins p).source = s.source := by
  rw [State.source, State.source, State.auxOffered_setPins h]

/-- R20, R22, R25: a cycle reads the executor's answer only while a request is outstanding, and the auxiliary pins only
on a wired port. -/
theorem State.fetch_setPins {p : Pins} {s : State} (hrst : p.rst = s.pins.rst) (hnow : p.now = s.pins.now)
    (hans : s.busy = true → p.execAck = s.pins.execAck ∧ p.answer = s.pins.answer) (haux : s.SameAux p) :
    (s.setPins p).fetch = s.fetch.map (State.setPins p) := by
  unfold State.fetch
  rw [State.auxOffered_setPins haux, show (s.setPins p).pins.rst = s.pins.rst from hrst,
    show (s.setPins p).busy = s.busy from rfl]
  cases hreset : s.pins.rst with
  | true => rfl
  | false =>
    cases hbusy : s.busy with
    | true =>
      obtain ⟨hack, hanswer⟩ := hans hbusy
      rw [show (s.setPins p).pins.execAck = s.pins.execAck from hack]
      cases s.pins.execAck with
      | true => exact congrArg Fetched.done (State.complete_setPins (s := s.clearOutputs) hanswer)
      | false => rfl
    | false =>
      cases hoff : s.auxOffered with
      | true =>
        have hwired : s.par.auxPresent = true := by
          rw [State.auxOffered, Bool.and_eq_true] at hoff
          obtain ⟨hwired, -⟩ := hoff
          exact hwired
        obtain ⟨-, hword⟩ := haux hwired
        rw [show (s.setPins p).pins.auxWord = s.pins.auxWord from hword]; rfl
      | false => exact State.poll_setPins (s := s.clearOutputs) hnow

/-- R6, R25: up to a served command a cycle keeps the parameters and the pins. -/
theorem State.fetch_par_pins (s : State) : s.fetch.state.par = s.par ∧ s.fetch.state.pins = s.pins := by
  obtain ⟨-, h⟩ | ⟨-, -, -, h⟩ | ⟨-, -, -, h⟩ | ⟨-, -, -, h⟩ | ⟨-, -, -, h⟩ := s.fetch_cases <;> rw [h]
  · exact ⟨rfl, rfl⟩
  · simp
  · exact ⟨rfl, rfl⟩
  · exact ⟨rfl, rfl⟩
  · obtain ⟨-, -, -, hpar, hpins⟩ := s.clearOutputs.poll_frame
    exact ⟨hpar, hpins⟩

/-- R10, R25: pins that the cycle does not read have no effect on a step. -/
theorem step_setPins {p : Pins} {s : State} (hrst : p.rst = s.pins.rst) (hnow : p.now = s.pins.now)
    (hans : s.busy = true → p.execAck = s.pins.execAck ∧ p.answer = s.pins.answer) (haux : s.SameAux p) :
    step (s.setPins p) = step s := by
  obtain ⟨hpar, hpins⟩ := s.fetch_par_pins
  have haux' : s.fetch.state.SameAux p := by rwa [State.SameAux, hpar, hpins]
  have hnow' : p.now = s.fetch.finish.pins.now := by rw [Fetched.finish_pins, hpins, hnow]
  rw [step_eq_finish, step_eq_finish, State.fetch_setPins hrst hnow hans haux,
    Fetched.finish_map rfl (State.perform_setPins (State.source_setPins haux')), State.between_setPins hnow']

/-- Settles O52: the pins differ on an unwired port only. -/
theorem unwiredAuxiliaryPortHasNoEffect : Obligations.UnwiredAuxiliaryPortHasNoEffect := by
  unfold Obligations.UnwiredAuxiliaryPortHasNoEffect
  intro s t v w hunwired ht
  have haux : s.SameAux { s.pins with auxValid := v, auxWord := w } := fun hwired => by
    rw [hunwired] at hwired
    cases hwired
  exact (step_setPins (p := { s.pins with auxValid := v, auxWord := w }) rfl rfl (fun _ => ⟨rfl, rfl⟩)
    haux).trans ht

/-- Settles O53: the pins differ in an answer without a request, and a reset cycle is a hardware reset and nothing
else. -/
theorem acknowledgementWithoutRequestIsIgnored : Obligations.AcknowledgementWithoutRequestIsIgnored := by
  unfold Obligations.AcknowledgementWithoutRequestIsIgnored
  refine ⟨fun s t a ans hbusy ht => ?_, fun s _ hrst => ?_⟩
  · have hans : s.busy = true → a = s.pins.execAck ∧ ans = s.pins.answer := fun h => by
      rw [hbusy] at h
      cases h
    exact (step_setPins (p := { s.pins with execAck := a, answer := ans }) rfl rfl hans
      (fun _ => ⟨rfl, rfl⟩)).trans ht
  · exact ⟨_, step_of_rst hrst, by simp, by simp [State.execPort], by simp, by simp⟩

end Sys2Proof.Machine
end

section
/-! PROOF. 10_state.md R14, R30, 60_exceptions.md R137: the invariant of the machine. The idea: clearing the outputs makes
the invariant one of the registers; from there a cycle is one operation, or a poll or an auxiliary word's take and the
command it serves, and each of these keeps it. -/

namespace Sys2Proof.Machine

/-- R26: the zero request uses no field. -/
theorem Request.zero_ok : Request.zero.Ok := by decide

/-- R30: the outputs of a cycle that drives none are idle, whatever the parameters. -/
theorem State.outputsOk_of_idle {s : State} (h : s.out = Outputs.idle) : s.OutputsOk := by
  simp [State.OutputsOk, h, Outputs.idle]

/-! ### The operations that start and end a cycle -/

theorem State.inv_hardReset {s : State} (h : s.Inv) : s.hardReset.Inv := by
  obtain ⟨⟨hwidth, -, hnow⟩, -, -, -, -, hresp⟩ := h
  exact ⟨⟨hwidth, Nat.two_pow_pos _, hnow⟩, BitVec.zero_and, Request.zero_ok, nofun, State.outputsOk_of_idle rfl, hresp⟩

theorem State.inv_clearOutputs {s : State} (h : s.Inv) : s.clearOutputs.Inv := by
  obtain ⟨htime, hupper, hreq, hflight, -, hresp⟩ := h
  exact ⟨htime, hupper, hreq, hflight, State.outputsOk_of_idle rfl, hresp⟩

/-- R10: the environment's move keeps the time a `TIME_W`-bit value. -/
theorem State.inv_present {s : State} (h : s.Inv) (inp : CycleInput) : (s.present inp).Inv := by
  obtain ⟨⟨hwidth, hts, -⟩, hupper, hreq, hflight, hout, hresp⟩ := h
  exact ⟨⟨hwidth, hts, Nat.mod_lt _ (Nat.two_pow_pos _)⟩, hupper, hreq, hflight, hout, hresp⟩

theorem State.inv_between {s : State} (h : s.Inv) : s.between.Inv := by
  cases hscript : s.script with
  | nil =>
    obtain ⟨htime, hupper, hreq, hflight, hout, hresp⟩ := State.inv_present h (Config.freeInput s.draws)
    rw [State.between_of_nil hscript]
    exact ⟨htime, hupper, hreq, hflight, hout, hresp⟩
  | cons inp rest =>
    obtain ⟨htime, hupper, hreq, hflight, hout, hresp⟩ := State.inv_present h inp
    rw [State.between_of_cons hscript]
    exact ⟨htime, hupper, hreq, hflight, hout, hresp⟩

/-! ### The operations of a response -/

/-- No response has been driven yet in this cycle. -/
def State.Silent (s : State) : Prop := s.out.txValid = false ∧ s.out.auxRespValid = false

/-- R62, R68: a first response of one of the three kinds, on the auxiliary port only where it is wired. -/
theorem State.inv_respond {s : State} {src : Source} {resp : Word} (h : s.Inv) (hsilent : s.Silent)
    (hresp : isResponse resp) (hwired : src = .aux → s.par.auxPresent = true) : (s.respond src resp).Inv := by
  obtain ⟨htime, hupper, hreq, hflight, ⟨htx0, -, haux0, -, hdiag, hop, hpop, htake⟩, heven⟩ := h
  obtain ⟨htx, haux⟩ := hsilent
  cases src with
  | framer =>
    have hout : (s.txWrite (highByte resp) (lowByte resp)).OutputsOk :=
      ⟨nofun, fun _ => by simpa [highByte_append_lowByte] using hresp, haux0, by simp [haux], hdiag, hop, hpop, htake⟩
    have hwhole : (s.tx ++ [highByte resp, lowByte resp]).length % 2 = 0 := by simpa using heven
    exact ⟨htime, hupper, hreq, hflight, hout, hwhole⟩
  | aux =>
    have hout : (s.auxRespond resp).OutputsOk :=
      ⟨htx0, by simp [htx], nofun, fun _ => ⟨hresp, htx, hwired rfl⟩, hdiag, hop, hpop, htake⟩
    exact ⟨htime, hupper, hreq, hflight, hout, heven⟩

/-- R110: a pulse of any code but BAD_OPCODE. -/
theorem State.inv_diag {s : State} {code : DiagCode} (h : s.Inv) (hcode : code ≠ .badOpcode) : (s.diag code).Inv := by
  by_cases hnone : code = .none
  · rwa [hnone, State.diag_none]
  · obtain ⟨htime, hupper, hreq, hflight, ⟨htx0, htx, haux0, haux, -, -, hpop, htake⟩, heven⟩ := h
    rw [State.diag_pulse hnone]
    exact ⟨htime, hupper, hreq, hflight, ⟨htx0, htx, haux0, haux, iff_of_true rfl hnone, hcode, hpop, htake⟩, heven⟩

/-- R72: an answer's code is NONE or EXEC_FAIL. -/
theorem encodeAnswer_code_ne_badOpcode (op : ExecOp) (ans : Answer) : (encodeAnswer op ans).2 ≠ .badOpcode := by
  obtain ⟨-, -, -, h⟩ | ⟨-, -, h⟩ | ⟨-, -, h⟩ := encodeAnswer_cases op ans <;> rw [h] <;> decide

/-- R71: a completion is the first response of its cycle. -/
theorem State.inv_complete {s : State} (h : s.Inv) (hsilent : s.Silent) (hbusy : s.busy = true) : s.complete.Inv := by
  obtain ⟨-, hport⟩ := h.flight hbusy
  have hanswered := State.inv_diag
    (State.inv_respond h hsilent (isResponse_encodeAnswer s.req.op s.pins.answer) hport)
    (encodeAnswer_code_ne_badOpcode s.req.op s.pins.answer)
  obtain ⟨htime, hupper, hreq, -, hout, heven⟩ := hanswered
  exact ⟨htime, hupper, hreq, nofun, hout, heven⟩

/-! ### Serving a command -/

/-- R14, R57: Set Upper Bits stores zeros in `upper_len[5:0]`. -/
theorem upperValue_low_bits (p : Byte) : upperValue p &&& 0x3F#8 = 0x00#8 := by
  rw [low_bits_eq_zero_iff, upperValue_eq_append, append_toNat]
  simp

/-- R13, R14: a plan leaves `upper_len[5:0]` at 0. -/
theorem planOf_upperNext_low_bits (i : Instr) {ul : Byte} (h : ul &&& 0x3F#8 = 0x00#8) :
    (planOf i ul).upperNext &&& 0x3F#8 = 0x00#8 := by
  rw [planOf_upperNext]
  cases i with
  | setupReset p => exact BitVec.zero_and
  | setupUpper p => exact upperValue_low_bits p
  | _ => exact h

/-- R22: an auxiliary command comes over a wired port. -/
theorem State.auxPresent_of_source {s : State} (h : s.source = .aux) : s.par.auxPresent = true := by
  by_contra hno
  simp [State.source, State.auxOffered, hno] at h

/-- R69, R70: a command is served by an IDLE framer, or comes from the auxiliary port. -/
theorem State.inv_perform {s : State} (h : s.Inv) (hsilent : s.Silent) (hidle : s.source = .framer → s.fr = .idle)
    (i : Instr) : (s.perform (planOf i s.upperLen)).Inv := by
  obtain ⟨htime, hupper, hreq, hflight, hout, heven⟩ := h
  have hupper' := planOf_upperNext_low_bits i hupper
  obtain ⟨r, hplan, hok⟩ | ⟨resp, code, hplan, hresp, hcode⟩ := planOf_action i s.upperLen
  · rw [State.perform_of_call hplan]
    exact ⟨htime, hupper', hok, fun _ => ⟨hidle, State.auxPresent_of_source⟩, hout, heven⟩
  · rw [State.perform_of_immediate hplan]
    have hwrite : (s.setUpper (planOf i s.upperLen).upperNext).Inv := ⟨htime, hupper', hreq, hflight, hout, heven⟩
    have hcode' : code ≠ .badOpcode := by obtain rfl | rfl | rfl := hcode <;> decide
    exact State.inv_diag (State.inv_respond hwrite hsilent hresp State.auxPresent_of_source) hcode'

/-! ### The poll and the auxiliary word's take -/

/-- R21: pops of at most two bytes, in a cycle that takes no auxiliary word. -/
theorem State.inv_popRx {s : State} (h : s.Inv) (htake : s.out.auxTake = false) {n : Nat} (hn : n ≤ 2) :
    (s.popRx n).Inv := by
  obtain ⟨htime, hupper, hreq, hflight, ⟨htx0, htx, haux0, haux, hdiag, hop, -, -⟩, heven⟩ := h
  have hpop : BitVec.ofNat 2 n ≤ 2 := by interval_cases n <;> decide
  exact ⟨htime, hupper, hreq, hflight, ⟨htx0, htx, haux0, haux, hdiag, hop, hpop, by simp [htake]⟩, heven⟩

/-- R94: the high byte's time is a `TIME_W`-bit value, and no command is outstanding. -/
theorem State.inv_holdHigh {s : State} (h : s.Inv) (hbusy : s.busy = false) (b : Byte) : (s.holdHigh b).Inv := by
  obtain ⟨⟨hwidth, -, hnow⟩, hupper, hreq, -, hout, heven⟩ := h
  have hflight : (s.holdHigh b).FlightOk := fun hb => by
    rw [State.holdHigh_busy, hbusy] at hb
    cases hb
  exact ⟨⟨hwidth, Nat.mod_lt _ (Nat.two_pow_pos _), hnow⟩, hupper, hreq, hflight, hout, heven⟩

theorem State.inv_toIdle {s : State} (h : s.Inv) : s.toIdle.Inv := by
  obtain ⟨htime, hupper, hreq, hflight, hout, heven⟩ := h
  refine ⟨htime, hupper, hreq, fun hbusy => ?_, hout, heven⟩
  obtain ⟨-, hport⟩ := hflight hbusy
  exact ⟨fun _ => rfl, hport⟩

/-- R76: the take of a wired port's word, in a cycle that pops no byte. -/
theorem State.inv_takeAux {s : State} (h : s.Inv) (hpop : s.out.rxPop = 0) (hwired : s.par.auxPresent = true) :
    s.takeAux.Inv := by
  obtain ⟨htime, hupper, hreq, hflight, ⟨htx0, htx, haux0, haux, hdiag, hop, hle, -⟩, heven⟩ := h
  exact ⟨htime, hupper, hreq, hflight, ⟨htx0, htx, haux0, haux, hdiag, hop, hle, fun _ => ⟨hpop, hwired⟩⟩, heven⟩

/-- R91: a poll keeps the invariant, and it serves a word with the framer IDLE. -/
theorem State.inv_finish_poll {s : State} (h : s.Inv) (hout : s.out = Outputs.idle) (hbusy : s.busy = false) :
    s.poll.finish.Inv := by
  have htake : s.out.auxTake = false := by rw [hout]; rfl
  have hsilent : s.Silent := by rw [State.Silent, hout]; exact ⟨rfl, rfl⟩
  obtain ⟨hfr, -, hp⟩ | ⟨-, -, hp⟩ | ⟨-, -, hp⟩ | ⟨-, -, hp⟩ | ⟨-, -, -, hp⟩ | ⟨-, -, -, hp⟩ := s.poll_cases <;> rw [hp]
  · exact State.inv_perform (State.inv_popRx h htake le_rfl) hsilent (fun _ => hfr) _
  · exact State.inv_popRx (State.inv_holdHigh h hbusy _) htake one_le_two
  · exact h
  · exact State.inv_perform (State.inv_toIdle (State.inv_popRx h htake one_le_two)) hsilent (fun _ => rfl) _
  · exact State.inv_diag (State.inv_toIdle h) (by decide)
  · exact h

/-- R25: a cycle keeps the invariant. -/
theorem State.inv_finish_fetch {s : State} (h : s.Inv) : s.fetch.finish.Inv := by
  have hclear := State.inv_clearOutputs h
  obtain ⟨-, hf⟩ | ⟨-, hbusy, -, hf⟩ | ⟨-, -, -, hf⟩ | ⟨-, -, hoff, hf⟩ | ⟨-, hbusy, -, hf⟩ := s.fetch_cases <;> rw [hf]
  · exact State.inv_hardReset h
  · exact State.inv_complete hclear ⟨rfl, rfl⟩ hbusy
  · exact hclear
  · have hsource : s.source = .aux := if_pos hoff
    refine State.inv_perform (State.inv_takeAux hclear rfl (State.auxPresent_of_source hsource)) ⟨rfl, rfl⟩
      (fun hwire => ?_) _
    have hno : Source.aux = .framer := hsource.symm.trans hwire
    cases hno
  · exact State.inv_finish_poll hclear rfl hbusy

/-- Settles O48: the cycle and the environment's move keep the invariant. -/
theorem stepKeepsTheInvariant : Obligations.StepKeepsTheInvariant := by
  unfold Obligations.StepKeepsTheInvariant
  intro s t h hstep
  rw [eq_between_of_step hstep]
  exact State.inv_between (State.inv_finish_fetch h)

end Sys2Proof.Machine
end

section
/-! PROOF. 20_memory.md R32, R38, R40: how bytes move on the channels in a cycle. The idea: what a cycle has moved so far
stands on its outputs, and each operation that moves bytes drives the output that says so. -/

namespace Sys2Proof.Machine

/-- R21: the bytes that the TX port drives. -/
def Outputs.written (o : Outputs) : List Byte := if o.txValid = true then [o.txHi, o.txLo] else []

/-- R21: from `s` to `t` within a cycle, the channels have moved by what `t` drives. -/
structure State.Moved (s t : State) : Prop where
  tx : t.tx = s.tx ++ t.out.written
  pop : t.out.rxPop.toNat ≤ s.rxCount
  rx : t.rx = s.rx.drop t.out.rxPop.toNat

/-- R30: nothing has moved in a cycle that drives nothing. -/
theorem State.moved_clearOutputs (s : State) : s.Moved s.clearOutputs :=
  ⟨(List.append_nil _).symm, Nat.zero_le _, rfl⟩

/-- R69, R105: serving a command moves the bytes of its response, if it answers on the wire. -/
theorem State.Moved.perform {s t : State} (h : s.Moved t) (hsilent : t.out.txValid = false) (p : Plan) :
    s.Moved (t.perform p) := by
  obtain ⟨htx, hpop, hrx⟩ := h
  have htx : t.tx = s.tx := by simpa [Outputs.written, hsilent] using htx
  refine ⟨?_, by rwa [State.perform_out_rxPop], by rwa [State.perform_rx, State.perform_out_rxPop]⟩
  obtain ⟨-, -, hptx, hout⟩ | ⟨-, -, -, ⟨-, hvalid, hptx, -, -⟩ | ⟨-, -, hptx, hvalid, -⟩⟩ := t.perform_answers_once p
  · simp [hptx, hout, htx, Outputs.written, hsilent]
  · simp [hptx, htx, Outputs.written, hvalid]
  · simp [hptx, htx, Outputs.written, hvalid, hsilent]

/-- R71: a completion moves the bytes of its response, if it answers on the wire. -/
theorem State.moved_complete {s : State} (hout : s.out = Outputs.idle) : s.Moved s.complete := by
  cases hsrc : s.srcReg with
  | framer =>
    rw [State.complete_of_source hsrc, State.respond_framer]
    constructor <;> simp [Outputs.written, hout, Outputs.idle]
  | aux =>
    rw [State.complete_of_source hsrc, State.respond_aux]
    constructor <;> simp [Outputs.written, hout, Outputs.idle]

/-- R8, R21: a pop moves at most the bytes the poll saw. -/
theorem State.moved_popRx {s : State} (hout : s.out = Outputs.idle) {n : Nat} (hn : n ≤ s.rxCount) :
    s.Moved (s.popRx n) := by
  have hcount : s.rxCount ≤ 2 := Nat.min_le_right _ _
  have hpop : (BitVec.ofNat 2 n).toNat = n := by rw [BitVec.toNat_ofNat]; omega
  constructor
  · simp [Outputs.written, hout, Outputs.idle]
  · rwa [State.popRx_out, hpop]
  · rw [State.popRx_rx, State.popRx_out, hpop]

/-- R91: a poll pops what it takes, and the word it hands over is served. -/
theorem State.moved_finish_poll {s : State} (hout : s.out = Outputs.idle) : s.Moved s.poll.finish := by
  have hsilent : s.out.txValid = false := by rw [hout]; rfl
  have hnone : s.Moved s := ⟨by simp [Outputs.written, hsilent], by simp [hout, Outputs.idle], by simp [hout, Outputs.idle]⟩
  obtain ⟨-, hc, hp⟩ | ⟨-, hc, hp⟩ | ⟨-, -, hp⟩ | ⟨-, hc, hp⟩ | ⟨-, -, -, hp⟩ | ⟨-, -, -, hp⟩ := s.poll_cases <;> rw [hp]
  · exact (State.moved_popRx hout hc.ge).perform hsilent _
  · obtain ⟨htx, hpop, hrx⟩ := State.moved_popRx hout hc.ge
    exact ⟨htx, hpop, hrx⟩
  · exact hnone
  · obtain ⟨htx, hpop, hrx⟩ := State.moved_popRx hout hc
    have hidle : s.Moved (s.popRx 1).toIdle := ⟨htx, hpop, hrx⟩
    exact hidle.perform hsilent _
  · obtain ⟨htx, hpop, hrx⟩ := hnone
    exact ⟨htx, hpop, hrx⟩
  · exact hnone

/-- R25: what a cycle moves. -/
theorem State.moved_finish_fetch (s : State) : s.Moved s.fetch.finish := by
  obtain ⟨htx, hpop, hrx⟩ := s.moved_clearOutputs
  obtain ⟨-, hf⟩ | ⟨-, -, -, hf⟩ | ⟨-, -, -, hf⟩ | ⟨-, -, -, hf⟩ | ⟨-, -, -, hf⟩ := s.fetch_cases <;> rw [hf]
  · exact ⟨htx, hpop, hrx⟩
  · obtain ⟨htx, hpop, hrx⟩ := State.moved_complete (s := s.clearOutputs) rfl
    exact ⟨htx, hpop, hrx⟩
  · exact ⟨htx, hpop, hrx⟩
  · have htake : s.Moved s.clearOutputs.takeAux := ⟨htx, hpop, hrx⟩
    exact htake.perform rfl _
  · obtain ⟨htx, hpop, hrx⟩ := State.moved_finish_poll (s := s.clearOutputs) rfl
    exact ⟨htx, hpop, hrx⟩

/-- R105: serving a command uses up no environment input. -/
theorem Fetched.finish_script (F : Fetched) : F.finish.script = F.state.script := by cases F <;> simp
theorem Fetched.finish_draws (F : Fetched) : F.finish.draws = F.state.draws := by cases F <;> simp

theorem State.poll_script_draws (s : State) : s.poll.state.script = s.script ∧ s.poll.state.draws = s.draws := by
  obtain ⟨-, -, h⟩ | ⟨-, -, h⟩ | ⟨-, -, h⟩ | ⟨-, -, h⟩ | ⟨-, -, -, h⟩ | ⟨-, -, -, h⟩ := s.poll_cases <;> simp [h]

/-- R10: a cycle uses up no environment input. -/
theorem State.finish_script_draws (s : State) :
    s.fetch.finish.script = s.script ∧ s.fetch.finish.draws = s.draws := by
  rw [Fetched.finish_script, Fetched.finish_draws]
  obtain ⟨-, h⟩ | ⟨-, -, -, h⟩ | ⟨-, -, -, h⟩ | ⟨-, -, -, h⟩ | ⟨-, -, -, h⟩ := s.fetch_cases <;> rw [h]
  · exact ⟨rfl, rfl⟩
  · simp
  · exact ⟨rfl, rfl⟩
  · exact ⟨rfl, rfl⟩
  · exact s.clearOutputs.poll_script_draws

/-- Settles O45: the cycle moves what it drives, and then the sender's bytes join the FIFO. -/
theorem channelsMoveOnlyByPopsAndWrites : Obligations.ChannelsMoveOnlyByPopsAndWrites := by
  unfold Obligations.ChannelsMoveOnlyByPopsAndWrites
  intro s t hstep
  obtain ⟨htx, hpop, hrx⟩ := s.moved_finish_fetch
  obtain ⟨hscript, hdraws⟩ := s.finish_script_draws
  rw [eq_between_of_step hstep, State.between_tx, State.between_out]
  refine ⟨htx, hpop, ?_⟩
  cases hs : s.script with
  | nil =>
    rw [State.between_of_nil (hscript.trans hs), ← hrx, hdraws]; rfl
  | cons inp rest =>
    rw [State.between_of_cons (hscript.trans hs), ← hrx]; rfl

end Sys2Proof.Machine
end

section
/-! PROOF. 45_framer.md R100, R103, R130, R138 and 40_dispatch.md R70, R122: what holds over several cycles of one command,
while its second byte or its answer is awaited. -/

namespace Sys2Proof.Machine

/-! ### The second byte at the next poll -/

/-- R93: a polling cycle of an idle framer that finds two or more bytes. -/
theorem State.fetch_of_two {s : State} {b0 b1 : Byte} {rest : List Byte} (hrst : s.pins.rst = false)
    (hbusy : s.busy = false) (haux : ¬ (s.par.auxPresent = true ∧ s.pins.auxValid = true)) (hfr : s.fr = .idle)
    (hrx : s.rx = b0 :: b1 :: rest) : s.fetch = .serve (b0 ++ b1) (s.clearOutputs.popRx 2) :=
  (State.fetch_eq_poll hrst hbusy haux).trans (State.poll_idle_of_two (s := s.clearOutputs) hfr hrx)

/-- R94: a polling cycle of an idle framer that finds one byte. -/
theorem State.fetch_of_one {s : State} {b : Byte} (hrst : s.pins.rst = false) (hbusy : s.busy = false)
    (haux : ¬ (s.par.auxPresent = true ∧ s.pins.auxValid = true)) (hfr : s.fr = .idle) (hrx : s.rx = [b]) :
    s.fetch = .done ((s.clearOutputs.holdHigh b).popRx 1) :=
  (State.fetch_eq_poll hrst hbusy haux).trans (State.poll_idle_of_one (s := s.clearOutputs) hfr hrx)

/-- R96: a polling cycle of a framer that awaits the second byte and finds one. -/
theorem State.fetch_of_await_cons {s : State} {b : Byte} {rest : List Byte} (hrst : s.pins.rst = false)
    (hbusy : s.busy = false) (haux : ¬ (s.par.auxPresent = true ∧ s.pins.auxValid = true)) (hfr : s.fr = .await)
    (hrx : s.rx = b :: rest) : s.fetch = .serve (s.hi ++ b) (s.clearOutputs.popRx 1).toIdle :=
  (State.fetch_eq_poll hrst hbusy haux).trans (State.poll_await_of_cons (s := s.clearOutputs) hfr hrx)

/-- R94: the state that awaits the second byte, when the script decides the next input. -/
theorem step_of_one_cons {s : State} {b : Byte} {inp : CycleInput} {rest : List CycleInput} (hrst : s.pins.rst = false)
    (hbusy : s.busy = false) (haux : ¬ (s.par.auxPresent = true ∧ s.pins.auxValid = true)) (hfr : s.fr = .idle)
    (hrx : s.rx = [b]) (hscript : s.script = inp :: rest) :
    ∃ t, step s = .next t ∧ t.hi = b ∧ t.fr = .await ∧ t.busy = false ∧ t.pins.rst = inp.rst ∧
      t.pins.auxValid = inp.auxValid ∧ t.rx = inp.arrivals := by
  refine ⟨_, step_done (State.fetch_of_one hrst hbusy haux hfr hrx), ?_⟩
  rw [State.between_of_cons (s := (s.clearOutputs.holdHigh b).popRx 1) hscript]
  exact ⟨rfl, rfl, hbusy, rfl, rfl, by simp [hrx]⟩

/-- Settles O54: the first poll holds `a` as the high byte, and the second joins the byte it finds to it. -/
theorem slowPathFormsTheFastPathsWord : Obligations.SlowPathFormsTheFastPathsWord := by
  unfold Obligations.SlowPathFormsTheFastPathsWord
  intro s a b more inp rest hrst hbusy haux hfr hrx hscript hirst hiaux harrivals
  have hfast := State.fetch_of_two (s := { s with rx := a :: b :: more }) hrst hbusy haux hfr rfl
  have hslow := State.fetch_of_one hrst hbusy haux hfr hrx
  obtain ⟨t, hstep, hthi, htfr, htbusy, htrst, htaux, htrx⟩ := step_of_one_cons hrst hbusy haux hfr hrx hscript
  have hoffered : ¬ (t.par.auxPresent = true ∧ t.pins.auxValid = true) := by simp [htaux, hiaux]
  have hword := State.fetch_of_await_cons (htrst.trans hirst) htbusy hoffered htfr (htrx.trans harrivals)
  rw [hthi] at hword
  exact ⟨State.served_of_serve hfast, State.served_of_done hslow, t, hstep, State.served_of_serve hword⟩

/-! ### An outstanding request -/

/-- R70, R137: from `s` to `t` the outstanding request and every register are held, nothing is written, and the FIFO only
grows. -/
structure State.Held (s t : State) : Prop where
  busy : t.busy = s.busy
  req : t.req = s.req
  srcReg : t.srcReg = s.srcReg
  upperLen : t.upperLen = s.upperLen
  fr : t.fr = s.fr
  hi : t.hi = s.hi
  ts : t.ts = s.ts
  tx : t.tx = s.tx
  rx : s.rx <+: t.rx

theorem State.Held.refl (s : State) : s.Held s := ⟨rfl, rfl, rfl, rfl, rfl, rfl, rfl, rfl, List.prefix_rfl⟩

theorem State.Held.trans {s t u : State} (h : s.Held t) (h' : t.Held u) : s.Held u where
  busy := h'.busy.trans h.busy
  req := h'.req.trans h.req
  srcReg := h'.srcReg.trans h.srcReg
  upperLen := h'.upperLen.trans h.upperLen
  fr := h'.fr.trans h.fr
  hi := h'.hi.trans h.hi
  ts := h'.ts.trans h.ts
  tx := h'.tx.trans h.tx
  rx := h.rx.trans h'.rx

/-- R20: the executor port is driven from the registers held. -/
theorem State.Held.execPort {s t : State} (h : s.Held t) : t.execPort = s.execPort := by
  rw [State.execPort, State.execPort, h.busy, h.req]

/-- R71: a wait whose next input the script decides. -/
theorem step_of_wait_cons {s : State} {inp : CycleInput} {rest : List CycleInput} (hbusy : s.busy = true)
    (hrst : s.pins.rst = false) (hack : s.pins.execAck = false) (hscript : s.script = inp :: rest) :
    ∃ t, step s = .next t ∧ s.Held t ∧ t.pins.rst = inp.rst ∧ t.pins.execAck = inp.execAck ∧ t.script = rest := by
  refine ⟨_, step_of_wait hrst hbusy hack, ?_⟩
  rw [State.between_of_cons (s := s.clearOutputs) hscript]
  exact ⟨⟨rfl, rfl, rfl, rfl, rfl, rfl, rfl, rfl, List.prefix_append _ _⟩, rfl, rfl, rfl⟩

/-- R122: a run of waits holds the request. -/
theorem run_of_wait (n : Nat) {s : State} (hbusy : s.busy = true) (hrst : s.pins.rst = false)
    (hack : s.pins.execAck = false) (hlen : n ≤ s.script.length)
    (hinputs : ∀ inp ∈ s.script.take n, inp.rst = false ∧ inp.execAck = false) :
    ∃ t, run n s = .next t ∧ s.Held t := by
  induction n generalizing s with
  | zero => exact ⟨s, rfl, State.Held.refl s⟩
  | succ n ih =>
    cases hscript : s.script with
    | nil => simp [hscript] at hlen
    | cons inp rest =>
      rw [hscript, List.length_cons] at hlen
      rw [hscript, List.take_succ_cons] at hinputs
      obtain ⟨hirst, hiack⟩ := hinputs inp List.mem_cons_self
      obtain ⟨t, hstep, hheld, htrst, htack, htscript⟩ := step_of_wait_cons hbusy hrst hack hscript
      obtain ⟨u, hrun, hrest⟩ := ih (s := t) (hheld.busy.trans hbusy) (htrst.trans hirst) (htack.trans hiack)
        (by rw [htscript]; omega) (by rw [htscript]; exact fun i hi => hinputs i (List.mem_cons_of_mem _ hi))
      exact ⟨u, (run_succ n hstep).trans hrun, hheld.trans hrest⟩

/-- Settles O56: each of the cycles is a wait. -/
theorem requestIsHeldUntilAnswered : Obligations.RequestIsHeldUntilAnswered := by
  unfold Obligations.RequestIsHeldUntilAnswered
  intro n s hbusy hrst hack hlen hinputs
  obtain ⟨t, hrun, hheld⟩ := run_of_wait n hbusy hrst hack hlen hinputs
  exact ⟨t, hrun, hheld.busy.trans hbusy, hheld.req, hheld.srcReg, hheld.upperLen, hheld.fr, hheld.hi, hheld.ts,
    hheld.tx, hheld.rx, hheld.execPort⟩

/-! ### A held high byte -/

/-- The framer holds `b` since `k` time units, the FIFO is empty, and no input is asserted. -/
structure State.Holding (b : Byte) (k : Nat) (s : State) : Prop where
  time : s.TimeOk
  fr : s.fr = .await
  hi : s.hi = b
  busy : s.busy = false
  rst : s.pins.rst = false
  auxValid : s.pins.auxValid = false
  rx : s.rx = []
  elapsed : s.elapsed = k

theorem State.Holding.not_offered {b : Byte} {k : Nat} {s : State} (h : s.Holding b k) :
    ¬ (s.par.auxPresent = true ∧ s.pins.auxValid = true) := by
  simp [h.auxValid]

/-- R99: one time unit later the elapsed time is one more, as long as it does not wrap. -/
theorem State.elapsed_succ {s t : State} (hs : s.TimeOk) (ht : t.TimeOk) (hpar : t.par = s.par) (hts : t.ts = s.ts)
    (hnow : t.pins.now = (s.pins.now + 1) % 2 ^ s.par.timeW) (hwrap : s.elapsed + 1 < 2 ^ s.par.timeW) :
    t.elapsed = s.elapsed + 1 := by
  rw [State.elapsed_eq hs] at hwrap ⊢
  rw [State.elapsed_eq ht, hpar, hts, hnow, Nat.add_mod_mod, ← add_assoc, ← Nat.mod_add_mod, Nat.mod_eq_of_lt hwrap]

/-- R98: a poll within the timeout, followed by one quiet time unit, keeps the high byte. -/
theorem State.Holding.step_quiet {b : Byte} {k : Nat} {s : State} (h : s.Holding b k) (hk : k ≤ 5) {inp : CycleInput}
    {rest : List CycleInput} (hscript : s.script = inp :: rest) (hinp : QuietInput inp 1) :
    ∃ t, step s = .next t ∧ t.Holding b (k + 1) ∧ t.tx = s.tx ∧ t.script = rest := by
  obtain ⟨harrivals, hadvance, hirst, -, hiaux⟩ := hinp
  have hstep := awaitPollWithinTheTimeoutYields s h.rst h.busy h.not_offered h.fr h.rx (h.elapsed.trans_le hk)
  refine ⟨_, hstep, ?_⟩
  rw [State.between_of_cons (s := { s with out := Outputs.idle }) hscript]
  obtain ⟨hwidth, hts, -⟩ := h.time
  have hpow : 2 ^ 4 ≤ 2 ^ s.par.timeW := Nat.pow_le_pow_right (by decide) hwidth
  have hnow' : (s.pins.now + inp.advance) % 2 ^ s.par.timeW < 2 ^ s.par.timeW := Nat.mod_lt _ (Nat.two_pow_pos _)
  have helapsed := State.elapsed_succ h.time (t := { s with
    pins := { s.pins with now := (s.pins.now + inp.advance) % 2 ^ s.par.timeW } }) ⟨hwidth, hts, hnow'⟩ rfl rfl
    (by rw [hadvance]) (by rw [h.elapsed]; omega)
  rw [h.elapsed] at helapsed
  exact ⟨⟨⟨hwidth, hts, hnow'⟩, h.fr, h.hi, h.busy, hirst, hiaux, by simp [h.rx, harrivals], helapsed⟩, rfl, rfl⟩

/-- R138: quiet polls, one a time unit, keep the high byte up to six time units. -/
theorem State.Holding.run_quiet {b : Byte} {k : Nat} {s : State} {pre rest : List CycleInput} (h : s.Holding b k)
    (hscript : s.script = pre ++ rest) (hpre : ∀ inp ∈ pre, QuietInput inp 1) (hk : k + pre.length ≤ 6) :
    ∃ t, run pre.length s = .next t ∧ t.Holding b (k + pre.length) ∧ t.tx = s.tx := by
  induction pre generalizing k s with
  | nil => exact ⟨s, rfl, h, rfl⟩
  | cons inp pre ih =>
    rw [List.length_cons] at hk ⊢
    obtain ⟨t, hstep, hhold, htx, hrest⟩ := h.step_quiet (by omega) hscript (hpre inp List.mem_cons_self)
    obtain ⟨u, hrun, hholdu, htxu⟩ := ih hhold hrest (fun i hi => hpre i (List.mem_cons_of_mem _ hi)) (by omega)
    refine ⟨u, (run_succ _ hstep).trans hrun, ?_, htxu.trans htx⟩
    rwa [show k + (pre.length + 1) = k + 1 + pre.length by omega]

/-- A run that answers can be followed by one more step. -/
theorem run_succ_last {n : Nat} {s t : State} (h : run n s = .next t) : run (n + 1) s = step t := by
  induction n generalizing s with
  | zero =>
    cases h
    obtain ⟨u, hu⟩ := step_total t
    rw [run_succ 0 hu, hu, run_zero]
  | succ n ih =>
    obtain ⟨u, hstep, hrest⟩ := step_of_run_succ h
    rw [run_succ (n + 1) hstep, ih hrest]

/-- Settles O57: after `6 - k` quiet polls six time units have passed, and the next poll is the timeout's drop. -/
theorem heldByteIsDroppedSixUnitsAfterItCame : Obligations.HeldByteIsDroppedSixUnitsAfterItCame := by
  unfold Obligations.HeldByteIsDroppedSixUnitsAfterItCame
  intro s k pre rest htime hfr hbusy hrst haux hrx helapsed hk hscript hlen hpre
  have hhold : s.Holding s.hi k := ⟨htime, hfr, rfl, hbusy, hrst, haux, hrx, helapsed⟩
  obtain ⟨t, hrun, ht, htx⟩ := hhold.run_quiet hscript hpre (by omega)
  rw [hlen] at hrun
  rw [hlen, show k + (6 - k) = 6 by omega] at ht
  have hdrop := timeoutDropsTheHighByte t ht.rst ht.busy ht.not_offered ht.fr ht.rx (by rw [ht.elapsed]; decide)
  have hlast := (run_succ_last hrun).trans hdrop
  rw [show 6 - k + 1 = 7 - k by omega] at hlast
  exact ⟨⟨t, hrun, ht.fr, ht.hi, ht.elapsed, htx⟩, _, hlast, State.between_fr _, by rw [State.between_out],
    (State.between_tx _).trans htx⟩

end Sys2Proof.Machine
end

section
/-! PROOF. 41_test_setup.md to 44_test_end.md with 40_dispatch.md R72, end to end: two bytes at an idle framer are
answered on the wire. Two ideas. A plan and the executor's answer determine the response, whether the plan answers at once
or asks; and the response of a well-formed instruction is the one the spec's case list gives the number of its word. -/

namespace Sys2Proof.Machine

/-- R69, R72: the response to a command, from its plan and the executor's answer where the plan asks for it. -/
def Plan.answer (p : Plan) (ans : Answer) : Word :=
  match p.action with
  | .immediate resp _ => resp
  | .call r => (encodeAnswer r.op ans).1

@[simp] theorem Plan.answer_immediate (ul : Byte) (resp : Word) (code : DiagCode) (ans : Answer) :
    Plan.answer ⟨ul, .immediate resp code⟩ ans = resp := rfl
@[simp] theorem Plan.answer_call (ul : Byte) (r : Request) (ans : Answer) :
    Plan.answer ⟨ul, .call r⟩ ans = (encodeAnswer r.op ans).1 := rfl

/-! ### The numbers of the responses -/

/-- R60, R72: a payload of at most 15 bits is shifted up by one, and the event bit is added. -/
theorem statusSuccess_shiftLeft_toNat {n : Nat} (hn : n ≤ 15) (x : BitVec n) :
    (statusSuccess (x.setWidth 16 <<< 1)).toNat = 0x0001 + 2 * x.toNat := by
  have hx : x.toNat < 2 ^ 15 := lt_of_lt_of_le x.isLt (Nat.pow_le_pow_right (by decide) hn)
  have hshift : (x.setWidth 16 <<< 1).toNat = x.toNat * 2 ^ 1 := by
    rw [BitVec.toNat_shiftLeft, BitVec.toNat_setWidth, Nat.shiftLeft_eq]
    omega
  rw [statusSuccess, BitVec.toNat_or, hshift, Nat.or_comm]
  exact (or_eq_add_of_lt 1 x.toNat one_lt_two).trans (by ring)

/-- R61: the number of a packet report. -/
theorem packetReport_toNat (count : BitVec 15) : (packetReport count).toNat = 0x8000 + count.toNat := by
  rw [packetReport_eq_append, append_toNat]; rfl

theorem okOrFail_toNat (ok : Bool) (r : Word) : (okOrFail ok r).1.toNat = if ok then r.toNat else 0 := by
  cases ok <;> rfl

theorem encodeAnswer_readFeatures_toNat (ans : Answer) :
    (encodeAnswer .readFeatures ans).1.toNat = 0x0001 + 2 * ans.features.toNat :=
  statusSuccess_shiftLeft_toNat (by decide) ans.features

theorem encodeAnswer_readMax_toNat (ans : Answer) :
    (encodeAnswer .readMax ans).1.toNat = if ans.ok then 0x0001 + 2 * ans.value.toNat else 0 := by
  rw [encodeAnswer, okOrFail_toNat, statusSuccess_shiftLeft_toNat (by decide)]

theorem encodeAnswer_endTest_toNat (ans : Answer) :
    (encodeAnswer .endTest ans).1.toNat = if ans.ok then 0x8000 + ans.count.toNat else 0 := by
  rw [encodeAnswer, okOrFail_toNat, packetReport_toNat]

theorem encodeAnswer_toNat_of_no_payload {op : ExecOp} (hop : op = .reset ∨ op = .startRx ∨ op = .startTx)
    (ans : Answer) : (encodeAnswer op ans).1.toNat = if ans.ok then 0x0001 else 0 := by
  rw [encodeAnswer_of_no_payload hop]
  cases ans.ok <;> rfl

/-! ### The spec's case list by the range of the word's number -/

/-- R80, R85, R86: the words whose answer is the executor's Result alone. -/
theorem specAnswer_of_result {n : Nat} (h : n < 0x0100 ∨ (0x4000 ≤ n ∧ n < 0xC000)) (ans : Answer) :
    specAnswer n ans = if ans.ok then 0x0001 else 0 := by
  obtain hreset | htest := h
  · simp (disch := omega) only [specAnswer, if_pos]
  · simp (disch := omega) only [specAnswer, if_neg, if_pos]

/-- R83, R84, R89: the words that are decode errors. -/
theorem specAnswer_of_error {n : Nat} (h : (0x0200 ≤ n ∧ n < 0x0400) ∨ (0x0511 ≤ n ∧ n < 0x4000) ∨ 0xC00B ≤ n)
    (ans : Answer) : specAnswer n ans = 0 := by
  obtain hlow | hmid | hhigh := h <;> simp (disch := omega) only [specAnswer, if_neg, if_pos]

/-- R81. -/
theorem specAnswer_of_upper {n : Nat} (h : 0x0100 ≤ n ∧ n < 0x0200) (ans : Answer) : specAnswer n ans = 0x0001 := by
  simp (disch := omega) only [specAnswer, if_neg, if_pos]

/-- R82. -/
theorem specAnswer_of_features {n : Nat} (h : 0x0400 ≤ n ∧ n < 0x0500) (ans : Answer) :
    specAnswer n ans = 0x0001 + 2 * ans.features.toNat := by
  simp (disch := omega) only [specAnswer, if_neg, if_pos]

/-- R83. -/
theorem specAnswer_of_readMax {n : Nat} (h : 0x0500 ≤ n ∧ n ≤ 0x0510) (ans : Answer) :
    specAnswer n ans = if ans.ok then 0x0001 + 2 * ans.value.toNat else 0 := by
  simp (disch := omega) only [specAnswer, if_neg, if_pos]

/-- R89. -/
theorem specAnswer_of_testEnd {n : Nat} (h : 0xC000 ≤ n ∧ n ≤ 0xC00A) (ans : Answer) :
    specAnswer n ans = if ans.ok then 0x8000 + ans.count.toNat else 0 := by
  simp (disch := omega) only [specAnswer, if_neg, if_pos]

/-! ### The response of an instruction -/

/-- R107: the response to a decode error is the error word. -/
theorem planOf_answer_of_errorCode {i : Instr} (hwf : i.wf = true) (he : i.errorCode ≠ .none) (ul : Byte)
    (ans : Answer) : ((planOf i ul).answer ans).toNat = 0 := by
  rw [planOf_of_errorCode hwf he]; rfl

/-- R80 to R89, R72: the response to a well-formed instruction is the one the spec gives the number of its word. -/
theorem planOf_answer_toNat {i : Instr} (hwf : i.wf = true) (ul : Byte) (ans : Answer) :
    ((planOf i ul).answer ans).toNat = specAnswer (encode i).toNat ans := by
  cases i with
  | setupReset p =>
    rw [specAnswer_of_result (by simp [encode, formatCP_toNat]; omega)]
    exact encodeAnswer_toNat_of_no_payload (.inl rfl) ans
  | rxtest ch ign =>
    rw [specAnswer_of_result (by simp [encode, formatRX_toNat]; omega)]
    exact encodeAnswer_toNat_of_no_payload (.inr (.inl rfl)) ans
  | txtest ch len pkt =>
    rw [specAnswer_of_result (by simp [encode, formatTX_toNat]; omega)]
    exact encodeAnswer_toNat_of_no_payload (.inr (.inr rfl)) ans
  | setupUpper p =>
    rw [specAnswer_of_upper (by simp [encode, formatCP_toNat]; omega)]; rfl
  | setupFeat p =>
    rw [specAnswer_of_features (by simp [encode, formatCP_toNat]; omega)]
    exact encodeAnswer_readFeatures_toNat ans
  | setupMax p =>
    have hp : p.toNat ≤ 0x10 := by simpa [Instr.wf, BitVec.le_def] using hwf
    rw [specAnswer_of_readMax (by simp [encode, formatCP_toNat]; omega), planOf, planReadMax_of_le hp]
    exact encodeAnswer_readMax_toNat ans
  | testend p =>
    have hp : p.toNat ≤ 0x0A := by simpa [Instr.wf, BitVec.le_def] using hwf
    rw [specAnswer_of_testEnd (by simp [encode, formatCP_toNat]; omega), planOf, planTestEnd_of_le hp]
    exact encodeAnswer_endTest_toNat ans
  | setupMaxBadparam p | setupRsvd c p | testendBadparam p | testendBadctrl c p =>
    rw [planOf_answer_of_errorCode hwf (by simp [Instr.errorCode]), specAnswer_of_error]
    simp [Instr.wf, ← BitVec.toNat_inj, BitVec.lt_def] at hwf
    simp [encode, formatCP_toNat]
    omega

/-! ### The two cycles -/

/-- R71: a framer's request, acknowledged, is answered on the wire. -/
theorem State.complete_tx_of_framer {s : State} (h : s.srcReg = .framer) :
    s.complete.tx = s.tx ++ wordBytes (encodeAnswer s.req.op s.pins.answer).1 := by
  rw [State.complete_of_source h, State.respond_framer, State.release_tx, State.diag_tx, State.txWrite_tx]; rfl

/-- R69, R71, R95: in the cycle after a framer command is served, an outstanding request is answered, and an idle framer
that finds nothing yields. -/
theorem step_after_perform {s : State} {inp : CycleInput} {rest : List CycleInput} (p : Plan)
    (hsource : s.source = .framer) (hbusy : s.busy = false) (hfr : s.fr = .idle) (hrx : s.rx = [])
    (hscript : s.script = inp :: rest) (hrst : inp.rst = false) (hack : inp.execAck = true)
    (haux : inp.auxValid = false) (harrivals : inp.arrivals = []) :
    ∃ t, step (s.perform p).between = .next t ∧ t.busy = false ∧ t.fr = .idle ∧
      t.tx = s.tx ++ wordBytes (p.answer inp.answer) := by
  have hbetween := State.between_of_cons (s := s.perform p) ((State.perform_script p s).trans hscript)
  have hpins : (s.perform p).between.pins.rst = false ∧ (s.perform p).between.pins.execAck = true ∧
      (s.perform p).between.pins.auxValid = false ∧ (s.perform p).between.pins.answer = inp.answer := by
    rw [hbetween]; exact ⟨hrst, hack, haux, rfl⟩
  obtain ⟨hrst', hack', haux', hanswer⟩ := hpins
  have hfr' : (s.perform p).between.fr = .idle := by rw [State.between_fr, State.perform_fr, hfr]
  cases hp : p.action with
  | call r =>
    have hcall := State.perform_of_call hp s
    have hbusy' : (s.perform p).between.busy = true := by rw [State.between_busy, hcall]
    have hsrc : (s.perform p).between.srcReg = .framer := by rw [State.between_srcReg, hcall]; exact hsource
    refine ⟨_, step_of_ack hrst' hbusy' hack', by simp, by simp [hfr], ?_⟩
    rw [State.between_tx, State.complete_tx_of_framer (s := (s.perform p).between.clearOutputs) hsrc,
      State.clearOutputs_tx, State.clearOutputs_req, State.clearOutputs_pins, hanswer, State.between_tx,
      State.between_req, hcall]
    simp only [Plan.answer, hp]
  | immediate resp code =>
    have himm := State.perform_of_immediate hp s
    have hbusy' : (s.perform p).between.busy = false := by rw [State.between_busy, himm]; simp [hbusy]
    have hrx' : (s.perform p).between.rx = [] := by rw [hbetween]; simp [hrx, harrivals]
    refine ⟨_, idlePollOfEmptyFifoYields _ hrst' hbusy' (by simp [haux']) hfr' hrx', ?_, ?_, ?_⟩
    · rw [State.between_busy]; exact hbusy'
    · rw [State.between_fr]; exact hfr'
    · rw [State.between_tx, State.between_tx, himm, hsource]
      simp [State.respond_framer, Plan.answer, hp, wordBytes]

/-- R33: the number of a word by the bytes that carry it. -/
theorem highByte_lowByte_toNat (w : Word) : (highByte w).toNat * 0x100 + (lowByte w).toNat = w.toNat := by
  rw [highByte_toNat, lowByte_toNat]
  omega

/-- Settles O58: the first cycle serves the word, the second leaves its response on the wire. -/
theorem framerCommandIsAnsweredOnTheWire : Obligations.FramerCommandIsAnsweredOnTheWire := by
  unfold Obligations.FramerCommandIsAnsweredOnTheWire
  intro s b0 b1 inp rest hrst hbusy haux hfr hrx hscript hirst hiack hiaux harrivals
  have hsource : (s.clearOutputs.popRx 2).source = .framer := by
    rw [State.source_eq]; exact if_neg haux
  have hempty : (s.clearOutputs.popRx 2).rx = [] := by simp [hrx]
  obtain ⟨t, hsecond, htbusy, htfr, httx⟩ := step_after_perform (planOf (decode (b0 ++ b1)) s.upperLen) hsource hbusy hfr
    hempty hscript hirst hiack hiaux harrivals
  have hfirst := step_serve (State.fetch_of_two hrst hbusy haux hfr hrx)
  refine ⟨t, _, _, ?_, htbusy, htfr, httx, ?_⟩
  · exact (run_succ 1 hfirst).trans (run_succ 0 hsecond)
  · rw [highByte_lowByte_toNat, planOf_answer_toNat (decode_wf _), encode_decode]
    exact congrArg (specAnswer · inp.answer) (joinBytes_toNat b0 b1)

end Sys2Proof.Machine
end
